-- ==== Sys2Proof/Word.lean ====
section
/-! DEFINITION. The datum of the machine (10_state.md R17): the 256-bit Word, the 8-bit byte (00_scope.md R8), and
the two named Words of 00_scope.md R10. -/

namespace Sys2Proof

/-- R17: "a 256-bit value with two interpretations"; it has no tag saying which one applies. -/
abbrev Word := BitVec 256

/-- R8 `BYTE_WIDTH`: 8 bits. -/
abbrev Byte := BitVec 8

/-- R10 `ALLONES`: every bit 1, the two's-complement value −1. -/
def allOnes : Word := BitVec.allOnes 256

/-- R10 `MIN`: only the sign bit 255 set, the two's-complement value −2^255. -/
def minSigned : Word := BitVec.intMin 256

end Sys2Proof
end

