-- ==== Sys2Proof/Config.lean ====
section
/-! DEFINITION. The parameters of 00_scope.md R8 that are arguments of the step relation, with the values R8 gives
"for this hardware", and the one parameter the spec leaves OPEN. Parameters are inputs, constant during a run, no
register a program can read or write (10_state.md R29, R32); State holds them (log entry 1). -/

namespace Sys2Proof

/-- R8, R66, 93 B1: what an unassigned opcode byte does. -/
inductive UnknownOpcodePolicy where
  | nop    -- "they advance pc by one and have no stack effect" (this hardware)
  | fault  -- `raise Fault(InvalidOpcode)`
  deriving DecidableEq, Repr

/-- R8, R54, 93 B2: the immediate of a PUSHk that runs past the end of code. -/
inductive TruncPushMode where
  | zeroFill  -- the missing trailing bytes are present and zero (this hardware)
  | omit      -- the missing bytes are left out of the number
  deriving DecidableEq, Repr

/-- The argument rows of R8, apart from the code itself. -/
structure Config where
  unknownOpcodePolicy : UnknownOpcodePolicy
  truncPushMode : TruncPushMode
  /-- R19 `STACK_CAPACITY`: `none` is ∞, `some C` a finite variant of capacity `C`. -/
  stackCapacity : Option Nat
  deriving DecidableEq, Repr

/-- R8: the values "for this hardware": NOP, ZERO_FILL, ∞. -/
def Config.hardware : Config where
  unknownOpcodePolicy := .nop
  truncPushMode := .zeroFill
  stackCapacity := none

/-- R19: whether a stack of depth `d` fits the capacity. -/
def Config.admits (c : Config) (d : Nat) : Bool :=
  match c.stackCapacity with
  | none => true
  | some cap => decide (d ≤ cap)

/-- 92 D4, 93 B7 `CODE_LEN_MAX`, OPEN: the longest code a physical block accepts. Nothing constrains it, and no
instruction reads it; a claim about a physical `PC_WIDTH` names it as a premise (log entry 8). -/
opaque Config.codeLenMax : Nat

end Sys2Proof
end

