-- ==== Sys2Proof/Syntax.lean ====
section
/-! DEFINITION. The instructions: one constructor per row of spec/opcode_table.json, which has one row per value of the
opcode byte (30_encoding.md R56): the 59 instructions of 00_scope.md R2 and the 197 unassigned bytes of R58. Also the
24 operations of the ALU (10_state.md R34) and the decoder's classes (R35). -/

namespace Sys2Proof

/-- 10_state.md R34: the operations `op` of the combinational ALU. -/
inductive AluOp where
  | add | mul | sub | div | sdiv | mod | smod | addmod | mulmod | exp | signextend | lt | gt | slt | sgt | eq
  | iszero | and | or | xor | not | shl | shr | sar
  deriving DecidableEq, Repr

/-- 10_state.md R35: the class the decoder gives an opcode byte. -/
inductive OpClass where
  | stop | push | pop | alu (op : AluOp) | unassigned
  deriving DecidableEq, Repr

/-- An instruction. `pushK imm` carries the Word its `K` immediate bytes assemble to (30_encoding.md R53, R54);
`unassignedXY` is the unassigned byte 0xXY (R58). Every other operand is popped from the stack (R51). -/
inductive Instr where
  | stop | add | mul | sub | div | sdiv | mod | smod | addmod | mulmod | exp | signextend | unassigned0C
  | unassigned0D | unassigned0E | unassigned0F | lt | gt | slt | sgt | eq | iszero | and | or | xor | not
  | unassigned1A | shl | shr | sar | unassigned1E | unassigned1F | unassigned20 | unassigned21 | unassigned22
  | unassigned23 | unassigned24 | unassigned25 | unassigned26 | unassigned27 | unassigned28 | unassigned29
  | unassigned2A | unassigned2B | unassigned2C | unassigned2D | unassigned2E | unassigned2F | unassigned30
  | unassigned31 | unassigned32 | unassigned33 | unassigned34 | unassigned35 | unassigned36 | unassigned37
  | unassigned38 | unassigned39 | unassigned3A | unassigned3B | unassigned3C | unassigned3D | unassigned3E
  | unassigned3F | unassigned40 | unassigned41 | unassigned42 | unassigned43 | unassigned44 | unassigned45
  | unassigned46 | unassigned47 | unassigned48 | unassigned49 | unassigned4A | unassigned4B | unassigned4C
  | unassigned4D | unassigned4E | unassigned4F | pop | unassigned51 | unassigned52 | unassigned53
  | unassigned54 | unassigned55 | unassigned56 | unassigned57 | unassigned58 | unassigned59 | unassigned5A
  | unassigned5B | unassigned5C | unassigned5D | unassigned5E | push0
  | push1 (imm : Word)
  | push2 (imm : Word)
  | push3 (imm : Word)
  | push4 (imm : Word)
  | push5 (imm : Word)
  | push6 (imm : Word)
  | push7 (imm : Word)
  | push8 (imm : Word)
  | push9 (imm : Word)
  | push10 (imm : Word)
  | push11 (imm : Word)
  | push12 (imm : Word)
  | push13 (imm : Word)
  | push14 (imm : Word)
  | push15 (imm : Word)
  | push16 (imm : Word)
  | push17 (imm : Word)
  | push18 (imm : Word)
  | push19 (imm : Word)
  | push20 (imm : Word)
  | push21 (imm : Word)
  | push22 (imm : Word)
  | push23 (imm : Word)
  | push24 (imm : Word)
  | push25 (imm : Word)
  | push26 (imm : Word)
  | push27 (imm : Word)
  | push28 (imm : Word)
  | push29 (imm : Word)
  | push30 (imm : Word)
  | push31 (imm : Word)
  | push32 (imm : Word)
  | unassigned80 | unassigned81 | unassigned82 | unassigned83 | unassigned84 | unassigned85 | unassigned86
  | unassigned87 | unassigned88 | unassigned89 | unassigned8A | unassigned8B | unassigned8C | unassigned8D
  | unassigned8E | unassigned8F | unassigned90 | unassigned91 | unassigned92 | unassigned93 | unassigned94
  | unassigned95 | unassigned96 | unassigned97 | unassigned98 | unassigned99 | unassigned9A | unassigned9B
  | unassigned9C | unassigned9D | unassigned9E | unassigned9F | unassignedA0 | unassignedA1 | unassignedA2
  | unassignedA3 | unassignedA4 | unassignedA5 | unassignedA6 | unassignedA7 | unassignedA8 | unassignedA9
  | unassignedAA | unassignedAB | unassignedAC | unassignedAD | unassignedAE | unassignedAF | unassignedB0
  | unassignedB1 | unassignedB2 | unassignedB3 | unassignedB4 | unassignedB5 | unassignedB6 | unassignedB7
  | unassignedB8 | unassignedB9 | unassignedBA | unassignedBB | unassignedBC | unassignedBD | unassignedBE
  | unassignedBF | unassignedC0 | unassignedC1 | unassignedC2 | unassignedC3 | unassignedC4 | unassignedC5
  | unassignedC6 | unassignedC7 | unassignedC8 | unassignedC9 | unassignedCA | unassignedCB | unassignedCC
  | unassignedCD | unassignedCE | unassignedCF | unassignedD0 | unassignedD1 | unassignedD2 | unassignedD3
  | unassignedD4 | unassignedD5 | unassignedD6 | unassignedD7 | unassignedD8 | unassignedD9 | unassignedDA
  | unassignedDB | unassignedDC | unassignedDD | unassignedDE | unassignedDF | unassignedE0 | unassignedE1
  | unassignedE2 | unassignedE3 | unassignedE4 | unassignedE5 | unassignedE6 | unassignedE7 | unassignedE8
  | unassignedE9 | unassignedEA | unassignedEB | unassignedEC | unassignedED | unassignedEE | unassignedEF
  | unassignedF0 | unassignedF1 | unassignedF2 | unassignedF3 | unassignedF4 | unassignedF5 | unassignedF6
  | unassignedF7 | unassignedF8 | unassignedF9 | unassignedFA | unassignedFB | unassignedFC | unassignedFD
  | unassignedFE | unassignedFF
  deriving DecidableEq, Repr

end Sys2Proof
end

