-- ==== Sys2Proof/WellFormed.lean ====
section
/-! DEFINITION. Which terms of Instr are instructions: a PUSHk carries an immediate of `k` bytes (30_encoding.md R51,
R53); no other instruction has a field that could be ill-formed. -/

namespace Sys2Proof

/-- R53: how many immediate bytes the instruction has, and the Word they assemble to; `(0, 0)` where it has none. -/
def immediateOf : Instr → Nat × Word
  | .push1 imm => (1, imm)
  | .push2 imm => (2, imm)
  | .push3 imm => (3, imm)
  | .push4 imm => (4, imm)
  | .push5 imm => (5, imm)
  | .push6 imm => (6, imm)
  | .push7 imm => (7, imm)
  | .push8 imm => (8, imm)
  | .push9 imm => (9, imm)
  | .push10 imm => (10, imm)
  | .push11 imm => (11, imm)
  | .push12 imm => (12, imm)
  | .push13 imm => (13, imm)
  | .push14 imm => (14, imm)
  | .push15 imm => (15, imm)
  | .push16 imm => (16, imm)
  | .push17 imm => (17, imm)
  | .push18 imm => (18, imm)
  | .push19 imm => (19, imm)
  | .push20 imm => (20, imm)
  | .push21 imm => (21, imm)
  | .push22 imm => (22, imm)
  | .push23 imm => (23, imm)
  | .push24 imm => (24, imm)
  | .push25 imm => (25, imm)
  | .push26 imm => (26, imm)
  | .push27 imm => (27, imm)
  | .push28 imm => (28, imm)
  | .push29 imm => (29, imm)
  | .push30 imm => (30, imm)
  | .push31 imm => (31, imm)
  | .push32 imm => (32, imm)
  | .stop | .add | .mul | .sub | .div | .sdiv | .mod | .smod | .addmod | .mulmod | .exp | .signextend
  | .unassigned0C | .unassigned0D | .unassigned0E | .unassigned0F | .lt | .gt | .slt | .sgt | .eq | .iszero
  | .and | .or | .xor | .not | .unassigned1A | .shl | .shr | .sar | .unassigned1E | .unassigned1F
  | .unassigned20 | .unassigned21 | .unassigned22 | .unassigned23 | .unassigned24 | .unassigned25
  | .unassigned26 | .unassigned27 | .unassigned28 | .unassigned29 | .unassigned2A | .unassigned2B
  | .unassigned2C | .unassigned2D | .unassigned2E | .unassigned2F | .unassigned30 | .unassigned31
  | .unassigned32 | .unassigned33 | .unassigned34 | .unassigned35 | .unassigned36 | .unassigned37
  | .unassigned38 | .unassigned39 | .unassigned3A | .unassigned3B | .unassigned3C | .unassigned3D
  | .unassigned3E | .unassigned3F | .unassigned40 | .unassigned41 | .unassigned42 | .unassigned43
  | .unassigned44 | .unassigned45 | .unassigned46 | .unassigned47 | .unassigned48 | .unassigned49
  | .unassigned4A | .unassigned4B | .unassigned4C | .unassigned4D | .unassigned4E | .unassigned4F | .pop
  | .unassigned51 | .unassigned52 | .unassigned53 | .unassigned54 | .unassigned55 | .unassigned56
  | .unassigned57 | .unassigned58 | .unassigned59 | .unassigned5A | .unassigned5B | .unassigned5C
  | .unassigned5D | .unassigned5E | .push0 | .unassigned80 | .unassigned81 | .unassigned82 | .unassigned83
  | .unassigned84 | .unassigned85 | .unassigned86 | .unassigned87 | .unassigned88 | .unassigned89
  | .unassigned8A | .unassigned8B | .unassigned8C | .unassigned8D | .unassigned8E | .unassigned8F
  | .unassigned90 | .unassigned91 | .unassigned92 | .unassigned93 | .unassigned94 | .unassigned95
  | .unassigned96 | .unassigned97 | .unassigned98 | .unassigned99 | .unassigned9A | .unassigned9B
  | .unassigned9C | .unassigned9D | .unassigned9E | .unassigned9F | .unassignedA0 | .unassignedA1
  | .unassignedA2 | .unassignedA3 | .unassignedA4 | .unassignedA5 | .unassignedA6 | .unassignedA7
  | .unassignedA8 | .unassignedA9 | .unassignedAA | .unassignedAB | .unassignedAC | .unassignedAD
  | .unassignedAE | .unassignedAF | .unassignedB0 | .unassignedB1 | .unassignedB2 | .unassignedB3
  | .unassignedB4 | .unassignedB5 | .unassignedB6 | .unassignedB7 | .unassignedB8 | .unassignedB9
  | .unassignedBA | .unassignedBB | .unassignedBC | .unassignedBD | .unassignedBE | .unassignedBF
  | .unassignedC0 | .unassignedC1 | .unassignedC2 | .unassignedC3 | .unassignedC4 | .unassignedC5
  | .unassignedC6 | .unassignedC7 | .unassignedC8 | .unassignedC9 | .unassignedCA | .unassignedCB
  | .unassignedCC | .unassignedCD | .unassignedCE | .unassignedCF | .unassignedD0 | .unassignedD1
  | .unassignedD2 | .unassignedD3 | .unassignedD4 | .unassignedD5 | .unassignedD6 | .unassignedD7
  | .unassignedD8 | .unassignedD9 | .unassignedDA | .unassignedDB | .unassignedDC | .unassignedDD
  | .unassignedDE | .unassignedDF | .unassignedE0 | .unassignedE1 | .unassignedE2 | .unassignedE3
  | .unassignedE4 | .unassignedE5 | .unassignedE6 | .unassignedE7 | .unassignedE8 | .unassignedE9
  | .unassignedEA | .unassignedEB | .unassignedEC | .unassignedED | .unassignedEE | .unassignedEF
  | .unassignedF0 | .unassignedF1 | .unassignedF2 | .unassignedF3 | .unassignedF4 | .unassignedF5
  | .unassignedF6 | .unassignedF7 | .unassignedF8 | .unassignedF9 | .unassignedFA | .unassignedFB
  | .unassignedFC | .unassignedFD | .unassignedFE | .unassignedFF => (0, 0)

/-- R53, R54: `imm` is a number of `k` bytes. -/
def immFits (k : Nat) (imm : Word) : Bool :=
  decide (imm.toNat < 2 ^ (8 * k))

/-- R53: the immediate fits the instruction's own number of immediate bytes. -/
def wellFormed (i : Instr) : Bool :=
  immFits (immediateOf i).1 (immediateOf i).2

end Sys2Proof
end

