-- ==== Sys2Proof/Decode.lean ====
section
/-! DEFINITION. The decoder and the encoder, both written from the tables of 30_encoding.md (R51–R60). The decoder is
total: every byte value decodes, and only the absence of an opcode byte is rejected, by name (R57). -/

namespace Sys2Proof

/-- Why no instruction was decoded. -/
inductive DecodeError where
  | endOfCode  -- R43, R64: there is no byte at pc; it "signals end-of-code"
  deriving DecidableEq, Repr

/-- 30_encoding.md R55: how many Words an ALU operation pops. -/
def aluArity : AluOp → Nat
  | .iszero | .not => 1
  | .addmod | .mulmod => 3
  | .add | .mul | .sub | .div | .sdiv | .mod | .smod | .exp | .signextend | .lt | .gt | .slt | .sgt | .eq
  | .and | .or | .xor | .shl | .shr | .sar => 2

/-- R55: how many Words an instruction of a class pops. -/
def classArity : OpClass → Nat
  | .stop => 0
  | .push => 0
  | .pop => 1
  | .alu op => aluArity op
  | .unassigned => 0

/-- R55: how many Words an instruction of a class pushes. -/
def classPushes : OpClass → Nat
  | .stop => 0
  | .push => 1
  | .pop => 0
  | .alu _ => 1
  | .unassigned => 0

/-- 30_encoding.md R56, the rows `0_` … `7_` of the map, by class (row = high digit, column = low digit). The rows
`8_` … `F_` are all unassigned. -/
def classRow : Nat → List OpClass
  | 0 =>
    [.stop, .alu .add, .alu .mul, .alu .sub, .alu .div, .alu .sdiv, .alu .mod, .alu .smod, .alu .addmod,
    .alu .mulmod, .alu .exp, .alu .signextend, .unassigned, .unassigned, .unassigned, .unassigned]
  | 1 =>
    [.alu .lt, .alu .gt, .alu .slt, .alu .sgt, .alu .eq, .alu .iszero, .alu .and, .alu .or, .alu .xor,
    .alu .not, .unassigned, .alu .shl, .alu .shr, .alu .sar, .unassigned, .unassigned]
  | 5 =>
    [.pop, .unassigned, .unassigned, .unassigned, .unassigned, .unassigned, .unassigned, .unassigned,
    .unassigned, .unassigned, .unassigned, .unassigned, .unassigned, .unassigned, .unassigned, .push]
  | 6 => List.replicate 16 .push
  | 7 => List.replicate 16 .push
  | _ => List.replicate 16 .unassigned

/-- R56: the class of an opcode byte. -/
def opClass (b : Byte) : OpClass :=
  (classRow (b.toNat / 16)).getD (b.toNat % 16) .unassigned

/-- R53, R59: the number of immediate bytes, `opcode − 0x5F` for PUSH1 … PUSH32 and 0 for every other byte. -/
def immLength (b : Byte) : Nat :=
  if 0x60 ≤ b.toNat ∧ b.toNat ≤ 0x7F then b.toNat - 0x5F else 0

/-- R59: the length of the instruction, told from its opcode byte alone. -/
def instrLength (b : Byte) : Nat :=
  1 + immLength b

/-- 10_state.md R35: the decoder interface, `decode(opcode_byte) -> (class, arity, k)`. -/
def decodeOpcode (b : Byte) : OpClass × Nat × Nat :=
  (opClass b, classArity (opClass b), immLength b)

/-- A row of the map of R56 whose instructions have no immediate. -/
def plainRow (is : List Instr) : List (Word → Instr) :=
  is.map fun i _ => i

/-- R56: row `row` of the map; each entry takes the assembled immediate, which only PUSH1 … PUSH32 use. -/
def instrRow : Nat → List (Word → Instr)
  | 0 => plainRow
    [.stop, .add, .mul, .sub, .div, .sdiv, .mod, .smod, .addmod, .mulmod, .exp, .signextend, .unassigned0C,
    .unassigned0D, .unassigned0E, .unassigned0F]
  | 1 => plainRow
    [.lt, .gt, .slt, .sgt, .eq, .iszero, .and, .or, .xor, .not, .unassigned1A, .shl, .shr, .sar,
    .unassigned1E, .unassigned1F]
  | 2 => plainRow
    [.unassigned20, .unassigned21, .unassigned22, .unassigned23, .unassigned24, .unassigned25, .unassigned26,
    .unassigned27, .unassigned28, .unassigned29, .unassigned2A, .unassigned2B, .unassigned2C, .unassigned2D,
    .unassigned2E, .unassigned2F]
  | 3 => plainRow
    [.unassigned30, .unassigned31, .unassigned32, .unassigned33, .unassigned34, .unassigned35, .unassigned36,
    .unassigned37, .unassigned38, .unassigned39, .unassigned3A, .unassigned3B, .unassigned3C, .unassigned3D,
    .unassigned3E, .unassigned3F]
  | 4 => plainRow
    [.unassigned40, .unassigned41, .unassigned42, .unassigned43, .unassigned44, .unassigned45, .unassigned46,
    .unassigned47, .unassigned48, .unassigned49, .unassigned4A, .unassigned4B, .unassigned4C, .unassigned4D,
    .unassigned4E, .unassigned4F]
  | 5 => plainRow
    [.pop, .unassigned51, .unassigned52, .unassigned53, .unassigned54, .unassigned55, .unassigned56,
    .unassigned57, .unassigned58, .unassigned59, .unassigned5A, .unassigned5B, .unassigned5C, .unassigned5D,
    .unassigned5E, .push0]
  | 6 =>
    [.push1, .push2, .push3, .push4, .push5, .push6, .push7, .push8, .push9, .push10, .push11, .push12,
    .push13, .push14, .push15, .push16]
  | 7 =>
    [.push17, .push18, .push19, .push20, .push21, .push22, .push23, .push24, .push25, .push26, .push27,
    .push28, .push29, .push30, .push31, .push32]
  | 8 => plainRow
    [.unassigned80, .unassigned81, .unassigned82, .unassigned83, .unassigned84, .unassigned85, .unassigned86,
    .unassigned87, .unassigned88, .unassigned89, .unassigned8A, .unassigned8B, .unassigned8C, .unassigned8D,
    .unassigned8E, .unassigned8F]
  | 9 => plainRow
    [.unassigned90, .unassigned91, .unassigned92, .unassigned93, .unassigned94, .unassigned95, .unassigned96,
    .unassigned97, .unassigned98, .unassigned99, .unassigned9A, .unassigned9B, .unassigned9C, .unassigned9D,
    .unassigned9E, .unassigned9F]
  | 10 => plainRow
    [.unassignedA0, .unassignedA1, .unassignedA2, .unassignedA3, .unassignedA4, .unassignedA5, .unassignedA6,
    .unassignedA7, .unassignedA8, .unassignedA9, .unassignedAA, .unassignedAB, .unassignedAC, .unassignedAD,
    .unassignedAE, .unassignedAF]
  | 11 => plainRow
    [.unassignedB0, .unassignedB1, .unassignedB2, .unassignedB3, .unassignedB4, .unassignedB5, .unassignedB6,
    .unassignedB7, .unassignedB8, .unassignedB9, .unassignedBA, .unassignedBB, .unassignedBC, .unassignedBD,
    .unassignedBE, .unassignedBF]
  | 12 => plainRow
    [.unassignedC0, .unassignedC1, .unassignedC2, .unassignedC3, .unassignedC4, .unassignedC5, .unassignedC6,
    .unassignedC7, .unassignedC8, .unassignedC9, .unassignedCA, .unassignedCB, .unassignedCC, .unassignedCD,
    .unassignedCE, .unassignedCF]
  | 13 => plainRow
    [.unassignedD0, .unassignedD1, .unassignedD2, .unassignedD3, .unassignedD4, .unassignedD5, .unassignedD6,
    .unassignedD7, .unassignedD8, .unassignedD9, .unassignedDA, .unassignedDB, .unassignedDC, .unassignedDD,
    .unassignedDE, .unassignedDF]
  | 14 => plainRow
    [.unassignedE0, .unassignedE1, .unassignedE2, .unassignedE3, .unassignedE4, .unassignedE5, .unassignedE6,
    .unassignedE7, .unassignedE8, .unassignedE9, .unassignedEA, .unassignedEB, .unassignedEC, .unassignedED,
    .unassignedEE, .unassignedEF]
  | _ => plainRow
    [.unassignedF0, .unassignedF1, .unassignedF2, .unassignedF3, .unassignedF4, .unassignedF5, .unassignedF6,
    .unassignedF7, .unassignedF8, .unassignedF9, .unassignedFA, .unassignedFB, .unassignedFC, .unassignedFD,
    .unassignedFE, .unassignedFF]

/-- R56: the instruction an opcode byte selects, given its assembled immediate. Each row has 16 columns, so the default
is never taken (Laws/Decode.lean, `opcodeOf_instrAt`). -/
def instrAt (b : Byte) (imm : Word) : Instr :=
  (instrRow (b.toNat / 16)).getD (b.toNat % 16) (fun _ => .stop) imm

/-- 20_memory.md R39: bytes in address order as one big-endian number, the byte at the lowest address most significant. -/
def concatBytes (bs : List Byte) : Nat :=
  bs.foldl (fun acc b => acc * 256 + b.toNat) 0

/-- 30_encoding.md R54: the immediate of `k` bytes, of which `present` holds those that stand in the code after the
opcode, zero-extended to a Word. Under ZERO_FILL the missing trailing bytes are zeros in their own positions; under
OMIT only the bytes present are concatenated. -/
def assembleImm (mode : TruncPushMode) (k : Nat) (present : List Byte) : Word :=
  match mode with
  | .zeroFill => BitVec.ofNat 256 (concatBytes (present.take k ++ List.replicate (k - present.length) 0))
  | .omit => BitVec.ofNat 256 (concatBytes (present.take k))

/-- R51–R60: decode the instruction at the head of `bytes`, the bytes of the code from pc on, and give the bytes after
it. The immediate bytes are consumed and never decoded as opcodes (R59). -/
def decode (mode : TruncPushMode) : List Byte → Except DecodeError (Instr × List Byte)
  | [] => .error .endOfCode
  | b :: rest => .ok (instrAt b (assembleImm mode (immLength b) rest), rest.drop (immLength b))

/-- The longest instruction, PUSH32, in bytes (R51: "2 … 33 bytes"). -/
def maxInstrLength : Nat := 33

/-- R56: the opcode byte of an instruction (the encoder's half of the map). -/
def opcodeOf : Instr → Byte
  | .stop => 0x00
  | .add => 0x01
  | .mul => 0x02
  | .sub => 0x03
  | .div => 0x04
  | .sdiv => 0x05
  | .mod => 0x06
  | .smod => 0x07
  | .addmod => 0x08
  | .mulmod => 0x09
  | .exp => 0x0A
  | .signextend => 0x0B
  | .unassigned0C => 0x0C
  | .unassigned0D => 0x0D
  | .unassigned0E => 0x0E
  | .unassigned0F => 0x0F
  | .lt => 0x10
  | .gt => 0x11
  | .slt => 0x12
  | .sgt => 0x13
  | .eq => 0x14
  | .iszero => 0x15
  | .and => 0x16
  | .or => 0x17
  | .xor => 0x18
  | .not => 0x19
  | .unassigned1A => 0x1A
  | .shl => 0x1B
  | .shr => 0x1C
  | .sar => 0x1D
  | .unassigned1E => 0x1E
  | .unassigned1F => 0x1F
  | .unassigned20 => 0x20
  | .unassigned21 => 0x21
  | .unassigned22 => 0x22
  | .unassigned23 => 0x23
  | .unassigned24 => 0x24
  | .unassigned25 => 0x25
  | .unassigned26 => 0x26
  | .unassigned27 => 0x27
  | .unassigned28 => 0x28
  | .unassigned29 => 0x29
  | .unassigned2A => 0x2A
  | .unassigned2B => 0x2B
  | .unassigned2C => 0x2C
  | .unassigned2D => 0x2D
  | .unassigned2E => 0x2E
  | .unassigned2F => 0x2F
  | .unassigned30 => 0x30
  | .unassigned31 => 0x31
  | .unassigned32 => 0x32
  | .unassigned33 => 0x33
  | .unassigned34 => 0x34
  | .unassigned35 => 0x35
  | .unassigned36 => 0x36
  | .unassigned37 => 0x37
  | .unassigned38 => 0x38
  | .unassigned39 => 0x39
  | .unassigned3A => 0x3A
  | .unassigned3B => 0x3B
  | .unassigned3C => 0x3C
  | .unassigned3D => 0x3D
  | .unassigned3E => 0x3E
  | .unassigned3F => 0x3F
  | .unassigned40 => 0x40
  | .unassigned41 => 0x41
  | .unassigned42 => 0x42
  | .unassigned43 => 0x43
  | .unassigned44 => 0x44
  | .unassigned45 => 0x45
  | .unassigned46 => 0x46
  | .unassigned47 => 0x47
  | .unassigned48 => 0x48
  | .unassigned49 => 0x49
  | .unassigned4A => 0x4A
  | .unassigned4B => 0x4B
  | .unassigned4C => 0x4C
  | .unassigned4D => 0x4D
  | .unassigned4E => 0x4E
  | .unassigned4F => 0x4F
  | .pop => 0x50
  | .unassigned51 => 0x51
  | .unassigned52 => 0x52
  | .unassigned53 => 0x53
  | .unassigned54 => 0x54
  | .unassigned55 => 0x55
  | .unassigned56 => 0x56
  | .unassigned57 => 0x57
  | .unassigned58 => 0x58
  | .unassigned59 => 0x59
  | .unassigned5A => 0x5A
  | .unassigned5B => 0x5B
  | .unassigned5C => 0x5C
  | .unassigned5D => 0x5D
  | .unassigned5E => 0x5E
  | .push0 => 0x5F
  | .push1 _ => 0x60
  | .push2 _ => 0x61
  | .push3 _ => 0x62
  | .push4 _ => 0x63
  | .push5 _ => 0x64
  | .push6 _ => 0x65
  | .push7 _ => 0x66
  | .push8 _ => 0x67
  | .push9 _ => 0x68
  | .push10 _ => 0x69
  | .push11 _ => 0x6A
  | .push12 _ => 0x6B
  | .push13 _ => 0x6C
  | .push14 _ => 0x6D
  | .push15 _ => 0x6E
  | .push16 _ => 0x6F
  | .push17 _ => 0x70
  | .push18 _ => 0x71
  | .push19 _ => 0x72
  | .push20 _ => 0x73
  | .push21 _ => 0x74
  | .push22 _ => 0x75
  | .push23 _ => 0x76
  | .push24 _ => 0x77
  | .push25 _ => 0x78
  | .push26 _ => 0x79
  | .push27 _ => 0x7A
  | .push28 _ => 0x7B
  | .push29 _ => 0x7C
  | .push30 _ => 0x7D
  | .push31 _ => 0x7E
  | .push32 _ => 0x7F
  | .unassigned80 => 0x80
  | .unassigned81 => 0x81
  | .unassigned82 => 0x82
  | .unassigned83 => 0x83
  | .unassigned84 => 0x84
  | .unassigned85 => 0x85
  | .unassigned86 => 0x86
  | .unassigned87 => 0x87
  | .unassigned88 => 0x88
  | .unassigned89 => 0x89
  | .unassigned8A => 0x8A
  | .unassigned8B => 0x8B
  | .unassigned8C => 0x8C
  | .unassigned8D => 0x8D
  | .unassigned8E => 0x8E
  | .unassigned8F => 0x8F
  | .unassigned90 => 0x90
  | .unassigned91 => 0x91
  | .unassigned92 => 0x92
  | .unassigned93 => 0x93
  | .unassigned94 => 0x94
  | .unassigned95 => 0x95
  | .unassigned96 => 0x96
  | .unassigned97 => 0x97
  | .unassigned98 => 0x98
  | .unassigned99 => 0x99
  | .unassigned9A => 0x9A
  | .unassigned9B => 0x9B
  | .unassigned9C => 0x9C
  | .unassigned9D => 0x9D
  | .unassigned9E => 0x9E
  | .unassigned9F => 0x9F
  | .unassignedA0 => 0xA0
  | .unassignedA1 => 0xA1
  | .unassignedA2 => 0xA2
  | .unassignedA3 => 0xA3
  | .unassignedA4 => 0xA4
  | .unassignedA5 => 0xA5
  | .unassignedA6 => 0xA6
  | .unassignedA7 => 0xA7
  | .unassignedA8 => 0xA8
  | .unassignedA9 => 0xA9
  | .unassignedAA => 0xAA
  | .unassignedAB => 0xAB
  | .unassignedAC => 0xAC
  | .unassignedAD => 0xAD
  | .unassignedAE => 0xAE
  | .unassignedAF => 0xAF
  | .unassignedB0 => 0xB0
  | .unassignedB1 => 0xB1
  | .unassignedB2 => 0xB2
  | .unassignedB3 => 0xB3
  | .unassignedB4 => 0xB4
  | .unassignedB5 => 0xB5
  | .unassignedB6 => 0xB6
  | .unassignedB7 => 0xB7
  | .unassignedB8 => 0xB8
  | .unassignedB9 => 0xB9
  | .unassignedBA => 0xBA
  | .unassignedBB => 0xBB
  | .unassignedBC => 0xBC
  | .unassignedBD => 0xBD
  | .unassignedBE => 0xBE
  | .unassignedBF => 0xBF
  | .unassignedC0 => 0xC0
  | .unassignedC1 => 0xC1
  | .unassignedC2 => 0xC2
  | .unassignedC3 => 0xC3
  | .unassignedC4 => 0xC4
  | .unassignedC5 => 0xC5
  | .unassignedC6 => 0xC6
  | .unassignedC7 => 0xC7
  | .unassignedC8 => 0xC8
  | .unassignedC9 => 0xC9
  | .unassignedCA => 0xCA
  | .unassignedCB => 0xCB
  | .unassignedCC => 0xCC
  | .unassignedCD => 0xCD
  | .unassignedCE => 0xCE
  | .unassignedCF => 0xCF
  | .unassignedD0 => 0xD0
  | .unassignedD1 => 0xD1
  | .unassignedD2 => 0xD2
  | .unassignedD3 => 0xD3
  | .unassignedD4 => 0xD4
  | .unassignedD5 => 0xD5
  | .unassignedD6 => 0xD6
  | .unassignedD7 => 0xD7
  | .unassignedD8 => 0xD8
  | .unassignedD9 => 0xD9
  | .unassignedDA => 0xDA
  | .unassignedDB => 0xDB
  | .unassignedDC => 0xDC
  | .unassignedDD => 0xDD
  | .unassignedDE => 0xDE
  | .unassignedDF => 0xDF
  | .unassignedE0 => 0xE0
  | .unassignedE1 => 0xE1
  | .unassignedE2 => 0xE2
  | .unassignedE3 => 0xE3
  | .unassignedE4 => 0xE4
  | .unassignedE5 => 0xE5
  | .unassignedE6 => 0xE6
  | .unassignedE7 => 0xE7
  | .unassignedE8 => 0xE8
  | .unassignedE9 => 0xE9
  | .unassignedEA => 0xEA
  | .unassignedEB => 0xEB
  | .unassignedEC => 0xEC
  | .unassignedED => 0xED
  | .unassignedEE => 0xEE
  | .unassignedEF => 0xEF
  | .unassignedF0 => 0xF0
  | .unassignedF1 => 0xF1
  | .unassignedF2 => 0xF2
  | .unassignedF3 => 0xF3
  | .unassignedF4 => 0xF4
  | .unassignedF5 => 0xF5
  | .unassignedF6 => 0xF6
  | .unassignedF7 => 0xF7
  | .unassignedF8 => 0xF8
  | .unassignedF9 => 0xF9
  | .unassignedFA => 0xFA
  | .unassignedFB => 0xFB
  | .unassignedFC => 0xFC
  | .unassignedFD => 0xFD
  | .unassignedFE => 0xFE
  | .unassignedFF => 0xFF

/-- R39, R53: the low `k` bytes of a number, most significant first. -/
def bytesBE : Nat → Nat → List Byte
  | 0, _ => []
  | k + 1, v => BitVec.ofNat 8 (v / 256 ^ k) :: bytesBE k v

/-- R52, R53: the bytes of an instruction in address order. -/
def encode (i : Instr) : List Byte :=
  opcodeOf i :: bytesBE (immediateOf i).1 (immediateOf i).2.toNat

/-- R56, R35: the class of an instruction. -/
def classOf (i : Instr) : OpClass :=
  opClass (opcodeOf i)

/-- R55: the arity of an instruction. -/
def arityOf (i : Instr) : Nat :=
  classArity (classOf i)

/-- R55: how many Words an instruction pushes. -/
def pushesOf (i : Instr) : Nat :=
  classPushes (classOf i)

/-- The low `n` bytes of a number, least significant first: spec/opcode_table.json numbers an instruction's bits from
its first byte up. -/
def bytesLE : Nat → Nat → List Byte
  | 0, _ => []
  | n + 1, w => BitVec.ofNat 8 w :: bytesLE n (w / 256)

/-- The bytes of an instruction whose bits are `w`, numbered as spec/opcode_table.json numbers them, `nbits` of them in
whole bytes; every bit above `nbits`, up to the longest instruction, is 0. -/
def tableBytes (nbits w : Nat) : List Byte :=
  (bytesLE (nbits / 8) w ++ List.replicate maxInstrLength 0).take maxInstrLength

/-- What the decoder reads from an instruction whose bits are `w` (the host's numbering). -/
def decodeTableWord (nbits w : Nat) : Option Instr :=
  match decode .zeroFill (tableBytes nbits w) with
  | .ok (i, _) => some i
  | .error .endOfCode => none

end Sys2Proof
end

