-- ==== Sys2Proof/Machine/State.lean ====
section
/-! DEFINITION. The state of the machine as plain data (10_state.md R16), its value right after reset (R36), and the
closed lists of reasons for which a step can stop. -/

namespace Sys2Proof.Machine

/-- 60_exceptions.md R134: the causes of the machine's own faults. Taking one is a NEXT state (R138), never the
outcome `.fault` of a step. -/
inductive FaultCause where
  | stackUnderflow  -- POP and the ALU instructions, `depth < arity`
  | invalidOpcode   -- an unassigned byte, only under UNKNOWN_OPCODE_POLICY = FAULT
  | stackOverflow   -- PUSH0 … PUSH32, only when STACK_CAPACITY is finite
  deriving DecidableEq, Repr

/-- 10_state.md R24: the status register. -/
inductive Status where
  | running
  | halted
  | faulted (cause : FaultCause)
  deriving DecidableEq, Repr

/-- The architectural state `(code, pc, S, status, success)` of R16, with the code's length (R30) and the parameter
inputs (00_scope.md R8, 10_state.md R32; log entry 1). -/
structure State where
  /-- R8: the parameters; no step writes them. -/
  cfg : Config
  /-- R30 `CODE_LEN`; no step writes it. -/
  codeLen : Nat
  /-- R30: the code ROM, canonical (Ops.lean, `Memory.wf`); an address below `codeLen` that is not listed holds 0x00
  (log entry 3); no step writes it. -/
  code : List Host.Cell
  /-- R21: the program counter. -/
  pc : Nat
  /-- R18: the operand stack `S[0], S[1], …`, the top first. -/
  stack : List Word
  /-- R24. -/
  status : Status
  /-- R25: written when a run ends; no rule reads it before (log entry 2). -/
  success : Bool
  deriving DecidableEq, Repr

/-- Why a step stops without a next state. -/
inductive Fault where
  /-- Raised by `step` alone, exactly when status is not Running: R139, "no step is enabled" in Halted and Faulted
  (log entry 4). Safe: no claim about a next state can be proved there. -/
  | runEnded
  deriving DecidableEq, Repr

/-- Why an instruction is refused. -/
inductive Refusal where
  /-- Raised by `exec` in the arm of an instruction that has no meaning yet; no arm of this model raises it. Safe. -/
  | notModelled (mnemonic : String)
  deriving DecidableEq, Repr

/-- R36, 70_reset_and_hazards.md R148: the machine right after reset, before a host has supplied any code (log entry
5). `success` is "unspecified until the run ends"; false is the model's choice (log entry 2). -/
def State.reset : State where
  cfg := Config.hardware
  codeLen := 0
  code := []
  pc := 0
  stack := []
  status := .running
  success := false

end Sys2Proof.Machine
end

