-- ==== Sys2Proof/Machine/Ops.lean ====
section
/-! DEFINITION. The named operations over the code ROM, the pc, the operand stack and the status: the one home of every
read and write of state. Raising a fault (60_exceptions.md R138) and ending a run are here; there is no return from a
fault (R139). The host's start event (70_reset_and_hazards.md R148), the outputs (10_state.md R33) and the structure of
a step (40_dispatch_and_stack.md R63) stand here too. -/

namespace Sys2Proof.Machine

/-! The code ROM as a sparse list: addresses strictly rising, no entry equal to what an unlisted address holds. -/

/-- What an address below CODE_LEN that is not listed holds (log entry 3). -/
def Memory.unlisted : Byte := 0

/-- The byte listed at an address, or `unlisted`. -/
def Memory.peek : List Host.Cell → Nat → Byte
  | [], _ => Memory.unlisted
  | (a, b) :: m, x => if a = x then b else Memory.peek m x

/-- Put a byte at an address, keeping the canonical form. No instruction writes memory (00_scope.md R13); the host's
load does. -/
def Memory.poke : List Host.Cell → Nat → Byte → List Host.Cell
  | [], x, v => if v = Memory.unlisted then [] else [(x, v)]
  | (a, b) :: m, x, v =>
    if x < a then (if v = Memory.unlisted then (a, b) :: m else (x, v) :: (a, b) :: m)
    else if x = a then (if v = Memory.unlisted then m else (x, v) :: m)
    else (a, b) :: Memory.poke m x v

/-- Put bytes at consecutive addresses from `x` on. -/
def Memory.pokeBytes (m : List Host.Cell) (x : Nat) : List Byte → List Host.Cell
  | [] => m
  | b :: bs => Memory.pokeBytes (Memory.poke m x b) (x + 1) bs

/-- Canonical from address `lo` on. -/
def Memory.wfFrom : Nat → List Host.Cell → Bool
  | _, [] => true
  | lo, (a, b) :: m => decide (lo ≤ a) && decide (b ≠ Memory.unlisted) && Memory.wfFrom (a + 1) m

/-- The canonical form: addresses strictly rising, and no entry equal to what an unlisted address holds. -/
def Memory.wf (m : List Host.Cell) : Bool :=
  Memory.wfFrom 0 m

/-! Reads of the code space. -/

/-- 00_scope.md R13 `MemRead(addr, 1)`: defined only below CODE_LEN. -/
def State.readCode (s : State) (addr : Nat) : Option Byte :=
  if addr < s.codeLen then some (Memory.peek s.code addr) else none

/-- R13 `ImmByte(addr)`: 0x00 past the end of code. -/
def State.immByte (s : State) (addr : Nat) : Byte :=
  (s.readCode addr).getD 0

/-- The bytes of the code from `addr` on, at most `n` of them, up to the end of code. -/
def State.codeFrom (s : State) : Nat → Nat → List Byte
  | 0, _ => []
  | n + 1, addr =>
    match s.readCode addr with
    | none => []
    | some b => b :: s.codeFrom n (addr + 1)

/-- R65, R72: the instruction at pc with its immediate bytes, or the end-of-code signal of R64. -/
def State.fetch (s : State) : Except DecodeError Instr :=
  match decode s.cfg.truncPushMode (s.codeFrom maxInstrLength s.pc) with
  | .ok (i, _) => .ok i
  | .error e => .error e

/-! The pc. -/

/-- R65, 10_state.md R22: the Cursor moves past the opcode byte before the handler runs. -/
def State.advance (s : State) : State :=
  { s with pc := s.pc + 1 }

/-- R72, R22: a PUSHk handler moves past its `k` immediate bytes, saturating at CODE_LEN. -/
def State.skipImmediate (s : State) (k : Nat) : State :=
  { s with pc := min (s.pc + k) s.codeLen }

/-! The operand stack (00_scope.md R12, 10_state.md R20). -/

/-- R12 `depth = |S|`. -/
def State.depth (s : State) : Nat :=
  s.stack.length

/-- R12 `push(w)`: `w` becomes the top. The capacity check of R69 is the caller's. -/
def State.push (s : State) (w : Word) : State :=
  { s with stack := w :: s.stack }

/-- R12 `popN(k)`, with the arity check of R68 before any pop: `none` when `depth < k`, else the top `k` Words top to
bottom and the state without them. -/
def State.popN (s : State) (k : Nat) : Option (List Word × State) :=
  if s.depth < k then none else some (s.stack.take k, { s with stack := s.stack.drop k })

/-- R69: a push finds the stack at its capacity; never when STACK_CAPACITY is ∞. -/
def State.atCapacity (s : State) : Bool :=
  decide (s.cfg.stackCapacity = some s.depth)

/-! The end of a run. -/

/-- R63, R64, R70: `status <- Halted; success <- 1`. -/
def State.halt (s : State) : State :=
  { s with status := .halted, success := true }

/-- 60_exceptions.md R138 fault entry: `status <- Faulted(cause)`, `success <- 0`, and nothing else. Control goes
nowhere: there is no handler, no vector and no saved state. -/
def State.raiseFault (s : State) (cause : FaultCause) : State :=
  { s with status := .faulted cause, success := false }

/-- R67: the end-of-code test after an instruction that completed. -/
def State.finish (s : State) : State :=
  if s.codeLen ≤ s.pc then s.halt else s

/-- R134: the cause codes of the spec. No state holds the number. -/
def faultCode : FaultCause → Nat
  | .stackUnderflow => 1
  | .invalidOpcode => 2
  | .stackOverflow => 3

/-! The step (R63), over the execution of a fetched instruction. -/

/-- R63: enabled only while status is Running; the end of code at fetch (R64) comes before everything else (R140). -/
def runStep (execute : Instr → State → Host.Outcome State Fault Refusal) (s : State) :
    Host.Outcome State Fault Refusal :=
  match s.status with
  | .running =>
    match s.fetch with
    | .error .endOfCode => .next s.halt
    | .ok i => execute i s
  | .halted => .fault .runEnded
  | .faulted _ => .fault .runEnded

/-! The host's side. -/

/-- 70_reset_and_hazards.md R148: the start event. The host supplies `codeIn`; the block takes its reset values and
keeps only the parameters, which are inputs of the block (R150). It is the host's act, no step (log entry 5). -/
def State.start (s : State) (codeIn : List Byte) : State :=
  { State.reset with cfg := s.cfg, codeLen := codeIn.length, code := Memory.pokeBytes [] 0 codeIn }

/-- The bytes `bs` in the code ROM at pc, inside the code and with the step enabled (log entry 6). -/
def State.placeAtPc (s : State) (bs : List Byte) : State :=
  { s with codeLen := max s.codeLen (s.pc + bs.length), code := Memory.pokeBytes s.code s.pc bs, status := .running }

/-- 10_state.md R33 `done`: 1 iff status is not Running. -/
def State.done (s : State) : Bool :=
  decide (s.status ≠ .running)

/-- R33 `success`, meaningful only when `done = 1`: no value before (93 B8, B12; log entry 7). -/
def State.successOut (s : State) : Option Bool :=
  if s.done then some s.success else none

/-- R33 `result_stack`, meaningful only when `done = 1`. -/
def State.resultStack (s : State) : Option (List Word) :=
  if s.done then some s.stack else none

/-- R26: the Execution Result, the pair of the final stack and the success flag. -/
def State.executionResult (s : State) : Option (List Word × Bool) :=
  if s.done then some (s.stack, s.success) else none

end Sys2Proof.Machine
end

