-- ==== Sys2Proof/Machine/Operands.lean ====
section
/-! DEFINITION. The operand forms: the interpretations of a Word (00_scope.md R10), the popped operands of the ALU
template (40_dispatch_and_stack.md R106) and the immediate operand of PUSHk (R72), and the one shape an unassigned byte
has (R66). -/

namespace Sys2Proof.Machine

/-- R10 `u(x)`: the unsigned value. -/
abbrev u (x : Word) : Nat :=
  x.toNat

/-- R10 `s(x)`: the two's-complement value. -/
abbrev sgn (x : Word) : Int :=
  x.toInt

/-- R10 `wrap(v)`: the Word whose unsigned value is `v mod 2^256`. -/
def wrap (v : Int) : Word :=
  BitVec.ofInt 256 v

/-- R10 `sext_256(x[hi:0])`: bit `hi` replicated into every higher bit. -/
def sextFrom (x : Word) (hi : Nat) : Word :=
  (x.extractLsb' 0 (hi + 1)).signExtend 256

/-- R106: the operand at position `i` of the popped Words, first popped first. An input past the arity is ignored by
the operation (10_state.md R34), so the 0 given for it is never used. -/
def operand (popped : List Word) (i : Nat) : Word :=
  popped.getD i 0

/-- R72: `raise` the overflow of R69 before pc moves past the immediate, else skip the immediate and push it. `s` is
the state at the opcode byte. -/
def execPush (k : Nat) (imm : Word) (s : State) : Host.Outcome State Fault Refusal :=
  if s.advance.atCapacity then .next (s.advance.raiseFault .stackOverflow)
  else .next ((s.advance.skipImmediate k).push imm).finish

/-- R66: nothing beyond the pc advance under NOP, `raise Fault(InvalidOpcode)` under FAULT. -/
def execUnassigned (s : State) : Host.Outcome State Fault Refusal :=
  match s.cfg.unknownOpcodePolicy with
  | .nop => .next s.advance.finish
  | .fault => .next (s.advance.raiseFault .invalidOpcode)

end Sys2Proof.Machine
end

