-- ==== Sys2Proof/Machine/Flags.lean ====
section
/-! DEFINITION. The block has no flag register and no condition codes (10_state.md R28). What takes their place is the
Word a comparison pushes (42_comparison.md R119): `bool(cond)` of 00_scope.md R11. -/

namespace Sys2Proof.Machine

/-- R11 `bool(c)`: the Word 1 when `c` holds and the Word 0 otherwise. -/
def boolWord (c : Bool) : Word :=
  if c then 1 else 0

end Sys2Proof.Machine
end

