-- ==== Sys2Proof/Machine/Alu.lean ====
section
/-! DEFINITION. The combinational ALU (10_state.md R34): one function per operation, each written from its rule as an
exact integer computation that `wrap` narrows, and the instruction template that uses it
(40_dispatch_and_stack.md R106). `a` is the first popped Word, `b` the second, `c` the third. -/

namespace Sys2Proof.Machine

/-! 41_arithmetic.md. -/

/-- R108. -/
def aluAdd (a b : Word) : Word :=
  wrap (u a + u b)

/-- R109. -/
def aluMul (a b : Word) : Word :=
  wrap (u a * u b)

/-- R110: primary − secondary. -/
def aluSub (a b : Word) : Word :=
  wrap (u a - u b)

/-- R111. -/
def aluDiv (a b : Word) : Word :=
  if u b = 0 then 0 else wrap (u a / u b : Nat)

/-- R112: the quotient of the magnitudes, negated when the signs differ (90_conflicts.md C5). -/
def aluSdiv (a b : Word) : Word :=
  if u b = 0 then 0
  else
    let q : Nat := (sgn a).natAbs / (sgn b).natAbs
    if decide (sgn a < 0) = decide (sgn b < 0) then wrap q else wrap (-q)

/-- R113. -/
def aluMod (a b : Word) : Word :=
  if u b = 0 then 0 else wrap (u a % u b : Nat)

/-- R114: the remainder of the magnitudes, negated when the dividend is negative (90_conflicts.md C6). -/
def aluSmod (a b : Word) : Word :=
  if u b = 0 then 0
  else
    let m : Nat := (sgn a).natAbs % (sgn b).natAbs
    if sgn a < 0 then wrap (-m) else wrap m

/-- R115: the sum is exact, not reduced before the remainder. -/
def aluAddmod (a b c : Word) : Word :=
  if u c = 0 then 0 else wrap ((u a + u b) % u c : Nat)

/-- R116: the product is exact. -/
def aluMulmod (a b c : Word) : Word :=
  if u c = 0 then 0 else wrap ((u a * u b) % u c : Nat)

/-- R117: square-and-multiply over the exponent `e`, every intermediate a Word, at most `n` bits of exponent. R117
says it gives the same Word as the exact power. -/
def powWord : Nat → Word → Nat → Word
  | 0, _, _ => 1
  | n + 1, x, e =>
    if e = 0 then 1
    else if e % 2 = 1 then aluMul x (powWord n (aluMul x x) (e / 2))
    else powWord n (aluMul x x) (e / 2)

/-- R117: base popped first, exponent second; `0 ^ 0 = 1`. -/
def aluExp (a b : Word) : Word :=
  powWord 256 a (u b)

/-- R118: `a` is the byte position, `b` the value. -/
def aluSignextend (a b : Word) : Word :=
  if 32 ≤ u a then b else sextFrom b (8 * u a + 7)

/-! 42_comparison.md. -/

/-- R120. -/
def aluLt (a b : Word) : Word :=
  boolWord (decide (u a < u b))

/-- R121. -/
def aluGt (a b : Word) : Word :=
  boolWord (decide (u a > u b))

/-- R122. -/
def aluSlt (a b : Word) : Word :=
  boolWord (decide (sgn a < sgn b))

/-- R123. -/
def aluSgt (a b : Word) : Word :=
  boolWord (decide (sgn a > sgn b))

/-- R124. -/
def aluEq (a b : Word) : Word :=
  boolWord (decide (a = b))

/-- R125. -/
def aluIszero (a : Word) : Word :=
  boolWord (decide (u a = 0))

/-! 43_bitwise_shift.md. -/

/-- R127. -/
def aluAnd (a b : Word) : Word :=
  a &&& b

/-- R128. -/
def aluOr (a b : Word) : Word :=
  a ||| b

/-- R129. -/
def aluXor (a b : Word) : Word :=
  a ^^^ b

/-- R130. -/
def aluNot (a : Word) : Word :=
  ~~~a

/-- R131: `a` is the amount, the whole Word, and `b` the value. -/
def aluShl (a b : Word) : Word :=
  if u a > 255 then 0 else wrap (u b * 2 ^ u a : Nat)

/-- R132. -/
def aluShr (a b : Word) : Word :=
  if u a > 255 then 0 else wrap (u b / 2 ^ u a : Nat)

/-- R133: the floor of `s(b) / 2^u(a)`; integer division by a positive number rounds toward minus infinity. -/
def aluSar (a b : Word) : Word :=
  if u a > 255 then (if b.getLsbD 255 then allOnes else 0) else wrap (sgn b / 2 ^ u a)

/-- 10_state.md R34: `alu(op, a, b, c)`; inputs past the arity of `op` are ignored. -/
def alu (op : AluOp) (a b c : Word) : Word :=
  match op with
  | .add => aluAdd a b
  | .mul => aluMul a b
  | .sub => aluSub a b
  | .div => aluDiv a b
  | .sdiv => aluSdiv a b
  | .mod => aluMod a b
  | .smod => aluSmod a b
  | .addmod => aluAddmod a b c
  | .mulmod => aluMulmod a b c
  | .exp => aluExp a b
  | .signextend => aluSignextend a b
  | .lt => aluLt a b
  | .gt => aluGt a b
  | .slt => aluSlt a b
  | .sgt => aluSgt a b
  | .eq => aluEq a b
  | .iszero => aluIszero a
  | .and => aluAnd a b
  | .or => aluOr a b
  | .xor => aluXor a b
  | .not => aluNot a
  | .shl => aluShl a b
  | .shr => aluShr a b
  | .sar => aluSar a b

/-- R106: the template of every ALU instruction: the arity check, the pops, one result pushed. `s` is the state at the
opcode byte. -/
def execAlu (op : AluOp) (s : State) : Host.Outcome State Fault Refusal :=
  match s.advance.popN (aluArity op) with
  | none => .next (s.advance.raiseFault .stackUnderflow)
  | some (popped, t) => .next (t.push (alu op (operand popped 0) (operand popped 1) (operand popped 2))).finish

end Sys2Proof.Machine
end

