-- ==== Sys2Proof/Machine/Arithmetic.lean ====
section
/-! DEFINITION. The eleven arithmetic instructions (41_arithmetic.md R107–R118), each the ALU template of R106 over its own
ALU function of Alu.lean. -/

namespace Sys2Proof.Machine

/-- R108 ADD, opcode 0x01, arity 2. -/
def execAdd (s : State) : Host.Outcome State Fault Refusal :=
  execAlu .add s

/-- R109 MUL, opcode 0x02, arity 2. -/
def execMul (s : State) : Host.Outcome State Fault Refusal :=
  execAlu .mul s

/-- R110 SUB, opcode 0x03, arity 2. -/
def execSub (s : State) : Host.Outcome State Fault Refusal :=
  execAlu .sub s

/-- R111 DIV, opcode 0x04, arity 2. -/
def execDiv (s : State) : Host.Outcome State Fault Refusal :=
  execAlu .div s

/-- R112 SDIV, opcode 0x05, arity 2. -/
def execSdiv (s : State) : Host.Outcome State Fault Refusal :=
  execAlu .sdiv s

/-- R113 MOD, opcode 0x06, arity 2. -/
def execMod (s : State) : Host.Outcome State Fault Refusal :=
  execAlu .mod s

/-- R114 SMOD, opcode 0x07, arity 2. -/
def execSmod (s : State) : Host.Outcome State Fault Refusal :=
  execAlu .smod s

/-- R115 ADDMOD, opcode 0x08, arity 3. -/
def execAddmod (s : State) : Host.Outcome State Fault Refusal :=
  execAlu .addmod s

/-- R116 MULMOD, opcode 0x09, arity 3. -/
def execMulmod (s : State) : Host.Outcome State Fault Refusal :=
  execAlu .mulmod s

/-- R117 EXP, opcode 0x0A, arity 2. -/
def execExp (s : State) : Host.Outcome State Fault Refusal :=
  execAlu .exp s

/-- R118 SIGNEXTEND, opcode 0x0B, arity 2. -/
def execSignextend (s : State) : Host.Outcome State Fault Refusal :=
  execAlu .signextend s


end Sys2Proof.Machine
end

