-- ==== Sys2Proof/Machine/Bitwise.lean ====
section
/-! DEFINITION. The seven bitwise and shift instructions (43_bitwise_shift.md R126–R133), each the ALU template of R106 over its
own ALU function of Alu.lean. -/

namespace Sys2Proof.Machine

/-- R127 AND, opcode 0x16, arity 2. -/
def execAnd (s : State) : Host.Outcome State Fault Refusal :=
  execAlu .and s

/-- R128 OR, opcode 0x17, arity 2. -/
def execOr (s : State) : Host.Outcome State Fault Refusal :=
  execAlu .or s

/-- R129 XOR, opcode 0x18, arity 2. -/
def execXor (s : State) : Host.Outcome State Fault Refusal :=
  execAlu .xor s

/-- R130 NOT, opcode 0x19, arity 1. -/
def execNot (s : State) : Host.Outcome State Fault Refusal :=
  execAlu .not s

/-- R131 SHL, opcode 0x1B, arity 2. -/
def execShl (s : State) : Host.Outcome State Fault Refusal :=
  execAlu .shl s

/-- R132 SHR, opcode 0x1C, arity 2. -/
def execShr (s : State) : Host.Outcome State Fault Refusal :=
  execAlu .shr s

/-- R133 SAR, opcode 0x1D, arity 2. -/
def execSar (s : State) : Host.Outcome State Fault Refusal :=
  execAlu .sar s


end Sys2Proof.Machine
end

