-- ==== Sys2Proof/Machine/Comparison.lean ====
section
/-! DEFINITION. The six comparison instructions (42_comparison.md R119–R125), each the ALU template of R106 over its own ALU
function of Alu.lean. -/

namespace Sys2Proof.Machine

/-- R120 LT, opcode 0x10, arity 2. -/
def execLt (s : State) : Host.Outcome State Fault Refusal :=
  execAlu .lt s

/-- R121 GT, opcode 0x11, arity 2. -/
def execGt (s : State) : Host.Outcome State Fault Refusal :=
  execAlu .gt s

/-- R122 SLT, opcode 0x12, arity 2. -/
def execSlt (s : State) : Host.Outcome State Fault Refusal :=
  execAlu .slt s

/-- R123 SGT, opcode 0x13, arity 2. -/
def execSgt (s : State) : Host.Outcome State Fault Refusal :=
  execAlu .sgt s

/-- R124 EQ, opcode 0x14, arity 2. -/
def execEq (s : State) : Host.Outcome State Fault Refusal :=
  execAlu .eq s

/-- R125 ISZERO, opcode 0x15, arity 1. -/
def execIszero (s : State) : Host.Outcome State Fault Refusal :=
  execAlu .iszero s


end Sys2Proof.Machine
end

