-- ==== Sys2Proof/Machine/Stack.lean ====
section
/-! DEFINITION. STOP, POP and PUSH0 … PUSH32 (40_dispatch_and_stack.md R70–R105). -/

namespace Sys2Proof.Machine

/-- R70 STOP, opcode 0x00: after the pc advance of R65, `status <- Halted; success <- 1`, "no further state change". -/
def execStop (s : State) : Host.Outcome State Fault Refusal :=
  .next s.advance.halt

/-- R71 POP, opcode 0x50: the arity check of R68, then the top Word is discarded and nothing is pushed. -/
def execPop (s : State) : Host.Outcome State Fault Refusal :=
  match s.advance.popN 1 with
  | none => .next (s.advance.raiseFault .stackUnderflow)
  | some (_, t) => .next t.finish

/-- R73 PUSH0, opcode 0x5F: `k = 0`, pushes the Word 0. -/
def execPush0 (s : State) : Host.Outcome State Fault Refusal :=
  execPush 0 0 s

/-- R74 PUSH1, opcode 0x60, `k = 1`. -/
def execPush1 (imm : Word) (s : State) : Host.Outcome State Fault Refusal :=
  execPush 1 imm s

/-- R75 PUSH2, opcode 0x61, `k = 2`. -/
def execPush2 (imm : Word) (s : State) : Host.Outcome State Fault Refusal :=
  execPush 2 imm s

/-- R76 PUSH3, opcode 0x62, `k = 3`. -/
def execPush3 (imm : Word) (s : State) : Host.Outcome State Fault Refusal :=
  execPush 3 imm s

/-- R77 PUSH4, opcode 0x63, `k = 4`. -/
def execPush4 (imm : Word) (s : State) : Host.Outcome State Fault Refusal :=
  execPush 4 imm s

/-- R78 PUSH5, opcode 0x64, `k = 5`. -/
def execPush5 (imm : Word) (s : State) : Host.Outcome State Fault Refusal :=
  execPush 5 imm s

/-- R79 PUSH6, opcode 0x65, `k = 6`. -/
def execPush6 (imm : Word) (s : State) : Host.Outcome State Fault Refusal :=
  execPush 6 imm s

/-- R80 PUSH7, opcode 0x66, `k = 7`. -/
def execPush7 (imm : Word) (s : State) : Host.Outcome State Fault Refusal :=
  execPush 7 imm s

/-- R81 PUSH8, opcode 0x67, `k = 8`. -/
def execPush8 (imm : Word) (s : State) : Host.Outcome State Fault Refusal :=
  execPush 8 imm s

/-- R82 PUSH9, opcode 0x68, `k = 9`. -/
def execPush9 (imm : Word) (s : State) : Host.Outcome State Fault Refusal :=
  execPush 9 imm s

/-- R83 PUSH10, opcode 0x69, `k = 10`. -/
def execPush10 (imm : Word) (s : State) : Host.Outcome State Fault Refusal :=
  execPush 10 imm s

/-- R84 PUSH11, opcode 0x6A, `k = 11`. -/
def execPush11 (imm : Word) (s : State) : Host.Outcome State Fault Refusal :=
  execPush 11 imm s

/-- R85 PUSH12, opcode 0x6B, `k = 12`. -/
def execPush12 (imm : Word) (s : State) : Host.Outcome State Fault Refusal :=
  execPush 12 imm s

/-- R86 PUSH13, opcode 0x6C, `k = 13`. -/
def execPush13 (imm : Word) (s : State) : Host.Outcome State Fault Refusal :=
  execPush 13 imm s

/-- R87 PUSH14, opcode 0x6D, `k = 14`. -/
def execPush14 (imm : Word) (s : State) : Host.Outcome State Fault Refusal :=
  execPush 14 imm s

/-- R88 PUSH15, opcode 0x6E, `k = 15`. -/
def execPush15 (imm : Word) (s : State) : Host.Outcome State Fault Refusal :=
  execPush 15 imm s

/-- R89 PUSH16, opcode 0x6F, `k = 16`. -/
def execPush16 (imm : Word) (s : State) : Host.Outcome State Fault Refusal :=
  execPush 16 imm s

/-- R90 PUSH17, opcode 0x70, `k = 17`. -/
def execPush17 (imm : Word) (s : State) : Host.Outcome State Fault Refusal :=
  execPush 17 imm s

/-- R91 PUSH18, opcode 0x71, `k = 18`. -/
def execPush18 (imm : Word) (s : State) : Host.Outcome State Fault Refusal :=
  execPush 18 imm s

/-- R92 PUSH19, opcode 0x72, `k = 19`. -/
def execPush19 (imm : Word) (s : State) : Host.Outcome State Fault Refusal :=
  execPush 19 imm s

/-- R93 PUSH20, opcode 0x73, `k = 20`. -/
def execPush20 (imm : Word) (s : State) : Host.Outcome State Fault Refusal :=
  execPush 20 imm s

/-- R94 PUSH21, opcode 0x74, `k = 21`. -/
def execPush21 (imm : Word) (s : State) : Host.Outcome State Fault Refusal :=
  execPush 21 imm s

/-- R95 PUSH22, opcode 0x75, `k = 22`. -/
def execPush22 (imm : Word) (s : State) : Host.Outcome State Fault Refusal :=
  execPush 22 imm s

/-- R96 PUSH23, opcode 0x76, `k = 23`. -/
def execPush23 (imm : Word) (s : State) : Host.Outcome State Fault Refusal :=
  execPush 23 imm s

/-- R97 PUSH24, opcode 0x77, `k = 24`. -/
def execPush24 (imm : Word) (s : State) : Host.Outcome State Fault Refusal :=
  execPush 24 imm s

/-- R98 PUSH25, opcode 0x78, `k = 25`. -/
def execPush25 (imm : Word) (s : State) : Host.Outcome State Fault Refusal :=
  execPush 25 imm s

/-- R99 PUSH26, opcode 0x79, `k = 26`. -/
def execPush26 (imm : Word) (s : State) : Host.Outcome State Fault Refusal :=
  execPush 26 imm s

/-- R100 PUSH27, opcode 0x7A, `k = 27`. -/
def execPush27 (imm : Word) (s : State) : Host.Outcome State Fault Refusal :=
  execPush 27 imm s

/-- R101 PUSH28, opcode 0x7B, `k = 28`. -/
def execPush28 (imm : Word) (s : State) : Host.Outcome State Fault Refusal :=
  execPush 28 imm s

/-- R102 PUSH29, opcode 0x7C, `k = 29`. -/
def execPush29 (imm : Word) (s : State) : Host.Outcome State Fault Refusal :=
  execPush 29 imm s

/-- R103 PUSH30, opcode 0x7D, `k = 30`. -/
def execPush30 (imm : Word) (s : State) : Host.Outcome State Fault Refusal :=
  execPush 30 imm s

/-- R104 PUSH31, opcode 0x7E, `k = 31`. -/
def execPush31 (imm : Word) (s : State) : Host.Outcome State Fault Refusal :=
  execPush 31 imm s

/-- R105 PUSH32, opcode 0x7F, `k = 32`. -/
def execPush32 (imm : Word) (s : State) : Host.Outcome State Fault Refusal :=
  execPush 32 imm s


end Sys2Proof.Machine
end

