-- ==== Sys2Proof/Machine/Unassigned.lean ====
section
/-! DEFINITION. The 197 unassigned opcode bytes (30_encoding.md R58), each of which executes by 40_dispatch_and_stack.md R66. -/

namespace Sys2Proof.Machine

/-- R66, the unassigned byte 0x0C. -/
def execUnassigned0C (s : State) : Host.Outcome State Fault Refusal :=
  execUnassigned s

/-- R66, the unassigned byte 0x0D. -/
def execUnassigned0D (s : State) : Host.Outcome State Fault Refusal :=
  execUnassigned s

/-- R66, the unassigned byte 0x0E. -/
def execUnassigned0E (s : State) : Host.Outcome State Fault Refusal :=
  execUnassigned s

/-- R66, the unassigned byte 0x0F. -/
def execUnassigned0F (s : State) : Host.Outcome State Fault Refusal :=
  execUnassigned s

/-- R66, the unassigned byte 0x1A. -/
def execUnassigned1A (s : State) : Host.Outcome State Fault Refusal :=
  execUnassigned s

/-- R66, the unassigned byte 0x1E. -/
def execUnassigned1E (s : State) : Host.Outcome State Fault Refusal :=
  execUnassigned s

/-- R66, the unassigned byte 0x1F. -/
def execUnassigned1F (s : State) : Host.Outcome State Fault Refusal :=
  execUnassigned s

/-- R66, the unassigned byte 0x20. -/
def execUnassigned20 (s : State) : Host.Outcome State Fault Refusal :=
  execUnassigned s

/-- R66, the unassigned byte 0x21. -/
def execUnassigned21 (s : State) : Host.Outcome State Fault Refusal :=
  execUnassigned s

/-- R66, the unassigned byte 0x22. -/
def execUnassigned22 (s : State) : Host.Outcome State Fault Refusal :=
  execUnassigned s

/-- R66, the unassigned byte 0x23. -/
def execUnassigned23 (s : State) : Host.Outcome State Fault Refusal :=
  execUnassigned s

/-- R66, the unassigned byte 0x24. -/
def execUnassigned24 (s : State) : Host.Outcome State Fault Refusal :=
  execUnassigned s

/-- R66, the unassigned byte 0x25. -/
def execUnassigned25 (s : State) : Host.Outcome State Fault Refusal :=
  execUnassigned s

/-- R66, the unassigned byte 0x26. -/
def execUnassigned26 (s : State) : Host.Outcome State Fault Refusal :=
  execUnassigned s

/-- R66, the unassigned byte 0x27. -/
def execUnassigned27 (s : State) : Host.Outcome State Fault Refusal :=
  execUnassigned s

/-- R66, the unassigned byte 0x28. -/
def execUnassigned28 (s : State) : Host.Outcome State Fault Refusal :=
  execUnassigned s

/-- R66, the unassigned byte 0x29. -/
def execUnassigned29 (s : State) : Host.Outcome State Fault Refusal :=
  execUnassigned s

/-- R66, the unassigned byte 0x2A. -/
def execUnassigned2A (s : State) : Host.Outcome State Fault Refusal :=
  execUnassigned s

/-- R66, the unassigned byte 0x2B. -/
def execUnassigned2B (s : State) : Host.Outcome State Fault Refusal :=
  execUnassigned s

/-- R66, the unassigned byte 0x2C. -/
def execUnassigned2C (s : State) : Host.Outcome State Fault Refusal :=
  execUnassigned s

/-- R66, the unassigned byte 0x2D. -/
def execUnassigned2D (s : State) : Host.Outcome State Fault Refusal :=
  execUnassigned s

/-- R66, the unassigned byte 0x2E. -/
def execUnassigned2E (s : State) : Host.Outcome State Fault Refusal :=
  execUnassigned s

/-- R66, the unassigned byte 0x2F. -/
def execUnassigned2F (s : State) : Host.Outcome State Fault Refusal :=
  execUnassigned s

/-- R66, the unassigned byte 0x30. -/
def execUnassigned30 (s : State) : Host.Outcome State Fault Refusal :=
  execUnassigned s

/-- R66, the unassigned byte 0x31. -/
def execUnassigned31 (s : State) : Host.Outcome State Fault Refusal :=
  execUnassigned s

/-- R66, the unassigned byte 0x32. -/
def execUnassigned32 (s : State) : Host.Outcome State Fault Refusal :=
  execUnassigned s

/-- R66, the unassigned byte 0x33. -/
def execUnassigned33 (s : State) : Host.Outcome State Fault Refusal :=
  execUnassigned s

/-- R66, the unassigned byte 0x34. -/
def execUnassigned34 (s : State) : Host.Outcome State Fault Refusal :=
  execUnassigned s

/-- R66, the unassigned byte 0x35. -/
def execUnassigned35 (s : State) : Host.Outcome State Fault Refusal :=
  execUnassigned s

/-- R66, the unassigned byte 0x36. -/
def execUnassigned36 (s : State) : Host.Outcome State Fault Refusal :=
  execUnassigned s

/-- R66, the unassigned byte 0x37. -/
def execUnassigned37 (s : State) : Host.Outcome State Fault Refusal :=
  execUnassigned s

/-- R66, the unassigned byte 0x38. -/
def execUnassigned38 (s : State) : Host.Outcome State Fault Refusal :=
  execUnassigned s

/-- R66, the unassigned byte 0x39. -/
def execUnassigned39 (s : State) : Host.Outcome State Fault Refusal :=
  execUnassigned s

/-- R66, the unassigned byte 0x3A. -/
def execUnassigned3A (s : State) : Host.Outcome State Fault Refusal :=
  execUnassigned s

/-- R66, the unassigned byte 0x3B. -/
def execUnassigned3B (s : State) : Host.Outcome State Fault Refusal :=
  execUnassigned s

/-- R66, the unassigned byte 0x3C. -/
def execUnassigned3C (s : State) : Host.Outcome State Fault Refusal :=
  execUnassigned s

/-- R66, the unassigned byte 0x3D. -/
def execUnassigned3D (s : State) : Host.Outcome State Fault Refusal :=
  execUnassigned s

/-- R66, the unassigned byte 0x3E. -/
def execUnassigned3E (s : State) : Host.Outcome State Fault Refusal :=
  execUnassigned s

/-- R66, the unassigned byte 0x3F. -/
def execUnassigned3F (s : State) : Host.Outcome State Fault Refusal :=
  execUnassigned s

/-- R66, the unassigned byte 0x40. -/
def execUnassigned40 (s : State) : Host.Outcome State Fault Refusal :=
  execUnassigned s

/-- R66, the unassigned byte 0x41. -/
def execUnassigned41 (s : State) : Host.Outcome State Fault Refusal :=
  execUnassigned s

/-- R66, the unassigned byte 0x42. -/
def execUnassigned42 (s : State) : Host.Outcome State Fault Refusal :=
  execUnassigned s

/-- R66, the unassigned byte 0x43. -/
def execUnassigned43 (s : State) : Host.Outcome State Fault Refusal :=
  execUnassigned s

/-- R66, the unassigned byte 0x44. -/
def execUnassigned44 (s : State) : Host.Outcome State Fault Refusal :=
  execUnassigned s

/-- R66, the unassigned byte 0x45. -/
def execUnassigned45 (s : State) : Host.Outcome State Fault Refusal :=
  execUnassigned s

/-- R66, the unassigned byte 0x46. -/
def execUnassigned46 (s : State) : Host.Outcome State Fault Refusal :=
  execUnassigned s

/-- R66, the unassigned byte 0x47. -/
def execUnassigned47 (s : State) : Host.Outcome State Fault Refusal :=
  execUnassigned s

/-- R66, the unassigned byte 0x48. -/
def execUnassigned48 (s : State) : Host.Outcome State Fault Refusal :=
  execUnassigned s

/-- R66, the unassigned byte 0x49. -/
def execUnassigned49 (s : State) : Host.Outcome State Fault Refusal :=
  execUnassigned s

/-- R66, the unassigned byte 0x4A. -/
def execUnassigned4A (s : State) : Host.Outcome State Fault Refusal :=
  execUnassigned s

/-- R66, the unassigned byte 0x4B. -/
def execUnassigned4B (s : State) : Host.Outcome State Fault Refusal :=
  execUnassigned s

/-- R66, the unassigned byte 0x4C. -/
def execUnassigned4C (s : State) : Host.Outcome State Fault Refusal :=
  execUnassigned s

/-- R66, the unassigned byte 0x4D. -/
def execUnassigned4D (s : State) : Host.Outcome State Fault Refusal :=
  execUnassigned s

/-- R66, the unassigned byte 0x4E. -/
def execUnassigned4E (s : State) : Host.Outcome State Fault Refusal :=
  execUnassigned s

/-- R66, the unassigned byte 0x4F. -/
def execUnassigned4F (s : State) : Host.Outcome State Fault Refusal :=
  execUnassigned s

/-- R66, the unassigned byte 0x51. -/
def execUnassigned51 (s : State) : Host.Outcome State Fault Refusal :=
  execUnassigned s

/-- R66, the unassigned byte 0x52. -/
def execUnassigned52 (s : State) : Host.Outcome State Fault Refusal :=
  execUnassigned s

/-- R66, the unassigned byte 0x53. -/
def execUnassigned53 (s : State) : Host.Outcome State Fault Refusal :=
  execUnassigned s

/-- R66, the unassigned byte 0x54. -/
def execUnassigned54 (s : State) : Host.Outcome State Fault Refusal :=
  execUnassigned s

/-- R66, the unassigned byte 0x55. -/
def execUnassigned55 (s : State) : Host.Outcome State Fault Refusal :=
  execUnassigned s

/-- R66, the unassigned byte 0x56. -/
def execUnassigned56 (s : State) : Host.Outcome State Fault Refusal :=
  execUnassigned s

/-- R66, the unassigned byte 0x57. -/
def execUnassigned57 (s : State) : Host.Outcome State Fault Refusal :=
  execUnassigned s

/-- R66, the unassigned byte 0x58. -/
def execUnassigned58 (s : State) : Host.Outcome State Fault Refusal :=
  execUnassigned s

/-- R66, the unassigned byte 0x59. -/
def execUnassigned59 (s : State) : Host.Outcome State Fault Refusal :=
  execUnassigned s

/-- R66, the unassigned byte 0x5A. -/
def execUnassigned5A (s : State) : Host.Outcome State Fault Refusal :=
  execUnassigned s

/-- R66, the unassigned byte 0x5B. -/
def execUnassigned5B (s : State) : Host.Outcome State Fault Refusal :=
  execUnassigned s

/-- R66, the unassigned byte 0x5C. -/
def execUnassigned5C (s : State) : Host.Outcome State Fault Refusal :=
  execUnassigned s

/-- R66, the unassigned byte 0x5D. -/
def execUnassigned5D (s : State) : Host.Outcome State Fault Refusal :=
  execUnassigned s

/-- R66, the unassigned byte 0x5E. -/
def execUnassigned5E (s : State) : Host.Outcome State Fault Refusal :=
  execUnassigned s

/-- R66, the unassigned byte 0x80. -/
def execUnassigned80 (s : State) : Host.Outcome State Fault Refusal :=
  execUnassigned s

/-- R66, the unassigned byte 0x81. -/
def execUnassigned81 (s : State) : Host.Outcome State Fault Refusal :=
  execUnassigned s

/-- R66, the unassigned byte 0x82. -/
def execUnassigned82 (s : State) : Host.Outcome State Fault Refusal :=
  execUnassigned s

/-- R66, the unassigned byte 0x83. -/
def execUnassigned83 (s : State) : Host.Outcome State Fault Refusal :=
  execUnassigned s

/-- R66, the unassigned byte 0x84. -/
def execUnassigned84 (s : State) : Host.Outcome State Fault Refusal :=
  execUnassigned s

/-- R66, the unassigned byte 0x85. -/
def execUnassigned85 (s : State) : Host.Outcome State Fault Refusal :=
  execUnassigned s

/-- R66, the unassigned byte 0x86. -/
def execUnassigned86 (s : State) : Host.Outcome State Fault Refusal :=
  execUnassigned s

/-- R66, the unassigned byte 0x87. -/
def execUnassigned87 (s : State) : Host.Outcome State Fault Refusal :=
  execUnassigned s

/-- R66, the unassigned byte 0x88. -/
def execUnassigned88 (s : State) : Host.Outcome State Fault Refusal :=
  execUnassigned s

/-- R66, the unassigned byte 0x89. -/
def execUnassigned89 (s : State) : Host.Outcome State Fault Refusal :=
  execUnassigned s

/-- R66, the unassigned byte 0x8A. -/
def execUnassigned8A (s : State) : Host.Outcome State Fault Refusal :=
  execUnassigned s

/-- R66, the unassigned byte 0x8B. -/
def execUnassigned8B (s : State) : Host.Outcome State Fault Refusal :=
  execUnassigned s

/-- R66, the unassigned byte 0x8C. -/
def execUnassigned8C (s : State) : Host.Outcome State Fault Refusal :=
  execUnassigned s

/-- R66, the unassigned byte 0x8D. -/
def execUnassigned8D (s : State) : Host.Outcome State Fault Refusal :=
  execUnassigned s

/-- R66, the unassigned byte 0x8E. -/
def execUnassigned8E (s : State) : Host.Outcome State Fault Refusal :=
  execUnassigned s

/-- R66, the unassigned byte 0x8F. -/
def execUnassigned8F (s : State) : Host.Outcome State Fault Refusal :=
  execUnassigned s

/-- R66, the unassigned byte 0x90. -/
def execUnassigned90 (s : State) : Host.Outcome State Fault Refusal :=
  execUnassigned s

/-- R66, the unassigned byte 0x91. -/
def execUnassigned91 (s : State) : Host.Outcome State Fault Refusal :=
  execUnassigned s

/-- R66, the unassigned byte 0x92. -/
def execUnassigned92 (s : State) : Host.Outcome State Fault Refusal :=
  execUnassigned s

/-- R66, the unassigned byte 0x93. -/
def execUnassigned93 (s : State) : Host.Outcome State Fault Refusal :=
  execUnassigned s

/-- R66, the unassigned byte 0x94. -/
def execUnassigned94 (s : State) : Host.Outcome State Fault Refusal :=
  execUnassigned s

/-- R66, the unassigned byte 0x95. -/
def execUnassigned95 (s : State) : Host.Outcome State Fault Refusal :=
  execUnassigned s

/-- R66, the unassigned byte 0x96. -/
def execUnassigned96 (s : State) : Host.Outcome State Fault Refusal :=
  execUnassigned s

/-- R66, the unassigned byte 0x97. -/
def execUnassigned97 (s : State) : Host.Outcome State Fault Refusal :=
  execUnassigned s

/-- R66, the unassigned byte 0x98. -/
def execUnassigned98 (s : State) : Host.Outcome State Fault Refusal :=
  execUnassigned s

/-- R66, the unassigned byte 0x99. -/
def execUnassigned99 (s : State) : Host.Outcome State Fault Refusal :=
  execUnassigned s

/-- R66, the unassigned byte 0x9A. -/
def execUnassigned9A (s : State) : Host.Outcome State Fault Refusal :=
  execUnassigned s

/-- R66, the unassigned byte 0x9B. -/
def execUnassigned9B (s : State) : Host.Outcome State Fault Refusal :=
  execUnassigned s

/-- R66, the unassigned byte 0x9C. -/
def execUnassigned9C (s : State) : Host.Outcome State Fault Refusal :=
  execUnassigned s

/-- R66, the unassigned byte 0x9D. -/
def execUnassigned9D (s : State) : Host.Outcome State Fault Refusal :=
  execUnassigned s

/-- R66, the unassigned byte 0x9E. -/
def execUnassigned9E (s : State) : Host.Outcome State Fault Refusal :=
  execUnassigned s

/-- R66, the unassigned byte 0x9F. -/
def execUnassigned9F (s : State) : Host.Outcome State Fault Refusal :=
  execUnassigned s

/-- R66, the unassigned byte 0xA0. -/
def execUnassignedA0 (s : State) : Host.Outcome State Fault Refusal :=
  execUnassigned s

/-- R66, the unassigned byte 0xA1. -/
def execUnassignedA1 (s : State) : Host.Outcome State Fault Refusal :=
  execUnassigned s

/-- R66, the unassigned byte 0xA2. -/
def execUnassignedA2 (s : State) : Host.Outcome State Fault Refusal :=
  execUnassigned s

/-- R66, the unassigned byte 0xA3. -/
def execUnassignedA3 (s : State) : Host.Outcome State Fault Refusal :=
  execUnassigned s

/-- R66, the unassigned byte 0xA4. -/
def execUnassignedA4 (s : State) : Host.Outcome State Fault Refusal :=
  execUnassigned s

/-- R66, the unassigned byte 0xA5. -/
def execUnassignedA5 (s : State) : Host.Outcome State Fault Refusal :=
  execUnassigned s

/-- R66, the unassigned byte 0xA6. -/
def execUnassignedA6 (s : State) : Host.Outcome State Fault Refusal :=
  execUnassigned s

/-- R66, the unassigned byte 0xA7. -/
def execUnassignedA7 (s : State) : Host.Outcome State Fault Refusal :=
  execUnassigned s

/-- R66, the unassigned byte 0xA8. -/
def execUnassignedA8 (s : State) : Host.Outcome State Fault Refusal :=
  execUnassigned s

/-- R66, the unassigned byte 0xA9. -/
def execUnassignedA9 (s : State) : Host.Outcome State Fault Refusal :=
  execUnassigned s

/-- R66, the unassigned byte 0xAA. -/
def execUnassignedAA (s : State) : Host.Outcome State Fault Refusal :=
  execUnassigned s

/-- R66, the unassigned byte 0xAB. -/
def execUnassignedAB (s : State) : Host.Outcome State Fault Refusal :=
  execUnassigned s

/-- R66, the unassigned byte 0xAC. -/
def execUnassignedAC (s : State) : Host.Outcome State Fault Refusal :=
  execUnassigned s

/-- R66, the unassigned byte 0xAD. -/
def execUnassignedAD (s : State) : Host.Outcome State Fault Refusal :=
  execUnassigned s

/-- R66, the unassigned byte 0xAE. -/
def execUnassignedAE (s : State) : Host.Outcome State Fault Refusal :=
  execUnassigned s

/-- R66, the unassigned byte 0xAF. -/
def execUnassignedAF (s : State) : Host.Outcome State Fault Refusal :=
  execUnassigned s

/-- R66, the unassigned byte 0xB0. -/
def execUnassignedB0 (s : State) : Host.Outcome State Fault Refusal :=
  execUnassigned s

/-- R66, the unassigned byte 0xB1. -/
def execUnassignedB1 (s : State) : Host.Outcome State Fault Refusal :=
  execUnassigned s

/-- R66, the unassigned byte 0xB2. -/
def execUnassignedB2 (s : State) : Host.Outcome State Fault Refusal :=
  execUnassigned s

/-- R66, the unassigned byte 0xB3. -/
def execUnassignedB3 (s : State) : Host.Outcome State Fault Refusal :=
  execUnassigned s

/-- R66, the unassigned byte 0xB4. -/
def execUnassignedB4 (s : State) : Host.Outcome State Fault Refusal :=
  execUnassigned s

/-- R66, the unassigned byte 0xB5. -/
def execUnassignedB5 (s : State) : Host.Outcome State Fault Refusal :=
  execUnassigned s

/-- R66, the unassigned byte 0xB6. -/
def execUnassignedB6 (s : State) : Host.Outcome State Fault Refusal :=
  execUnassigned s

/-- R66, the unassigned byte 0xB7. -/
def execUnassignedB7 (s : State) : Host.Outcome State Fault Refusal :=
  execUnassigned s

/-- R66, the unassigned byte 0xB8. -/
def execUnassignedB8 (s : State) : Host.Outcome State Fault Refusal :=
  execUnassigned s

/-- R66, the unassigned byte 0xB9. -/
def execUnassignedB9 (s : State) : Host.Outcome State Fault Refusal :=
  execUnassigned s

/-- R66, the unassigned byte 0xBA. -/
def execUnassignedBA (s : State) : Host.Outcome State Fault Refusal :=
  execUnassigned s

/-- R66, the unassigned byte 0xBB. -/
def execUnassignedBB (s : State) : Host.Outcome State Fault Refusal :=
  execUnassigned s

/-- R66, the unassigned byte 0xBC. -/
def execUnassignedBC (s : State) : Host.Outcome State Fault Refusal :=
  execUnassigned s

/-- R66, the unassigned byte 0xBD. -/
def execUnassignedBD (s : State) : Host.Outcome State Fault Refusal :=
  execUnassigned s

/-- R66, the unassigned byte 0xBE. -/
def execUnassignedBE (s : State) : Host.Outcome State Fault Refusal :=
  execUnassigned s

/-- R66, the unassigned byte 0xBF. -/
def execUnassignedBF (s : State) : Host.Outcome State Fault Refusal :=
  execUnassigned s

/-- R66, the unassigned byte 0xC0. -/
def execUnassignedC0 (s : State) : Host.Outcome State Fault Refusal :=
  execUnassigned s

/-- R66, the unassigned byte 0xC1. -/
def execUnassignedC1 (s : State) : Host.Outcome State Fault Refusal :=
  execUnassigned s

/-- R66, the unassigned byte 0xC2. -/
def execUnassignedC2 (s : State) : Host.Outcome State Fault Refusal :=
  execUnassigned s

/-- R66, the unassigned byte 0xC3. -/
def execUnassignedC3 (s : State) : Host.Outcome State Fault Refusal :=
  execUnassigned s

/-- R66, the unassigned byte 0xC4. -/
def execUnassignedC4 (s : State) : Host.Outcome State Fault Refusal :=
  execUnassigned s

/-- R66, the unassigned byte 0xC5. -/
def execUnassignedC5 (s : State) : Host.Outcome State Fault Refusal :=
  execUnassigned s

/-- R66, the unassigned byte 0xC6. -/
def execUnassignedC6 (s : State) : Host.Outcome State Fault Refusal :=
  execUnassigned s

/-- R66, the unassigned byte 0xC7. -/
def execUnassignedC7 (s : State) : Host.Outcome State Fault Refusal :=
  execUnassigned s

/-- R66, the unassigned byte 0xC8. -/
def execUnassignedC8 (s : State) : Host.Outcome State Fault Refusal :=
  execUnassigned s

/-- R66, the unassigned byte 0xC9. -/
def execUnassignedC9 (s : State) : Host.Outcome State Fault Refusal :=
  execUnassigned s

/-- R66, the unassigned byte 0xCA. -/
def execUnassignedCA (s : State) : Host.Outcome State Fault Refusal :=
  execUnassigned s

/-- R66, the unassigned byte 0xCB. -/
def execUnassignedCB (s : State) : Host.Outcome State Fault Refusal :=
  execUnassigned s

/-- R66, the unassigned byte 0xCC. -/
def execUnassignedCC (s : State) : Host.Outcome State Fault Refusal :=
  execUnassigned s

/-- R66, the unassigned byte 0xCD. -/
def execUnassignedCD (s : State) : Host.Outcome State Fault Refusal :=
  execUnassigned s

/-- R66, the unassigned byte 0xCE. -/
def execUnassignedCE (s : State) : Host.Outcome State Fault Refusal :=
  execUnassigned s

/-- R66, the unassigned byte 0xCF. -/
def execUnassignedCF (s : State) : Host.Outcome State Fault Refusal :=
  execUnassigned s

/-- R66, the unassigned byte 0xD0. -/
def execUnassignedD0 (s : State) : Host.Outcome State Fault Refusal :=
  execUnassigned s

/-- R66, the unassigned byte 0xD1. -/
def execUnassignedD1 (s : State) : Host.Outcome State Fault Refusal :=
  execUnassigned s

/-- R66, the unassigned byte 0xD2. -/
def execUnassignedD2 (s : State) : Host.Outcome State Fault Refusal :=
  execUnassigned s

/-- R66, the unassigned byte 0xD3. -/
def execUnassignedD3 (s : State) : Host.Outcome State Fault Refusal :=
  execUnassigned s

/-- R66, the unassigned byte 0xD4. -/
def execUnassignedD4 (s : State) : Host.Outcome State Fault Refusal :=
  execUnassigned s

/-- R66, the unassigned byte 0xD5. -/
def execUnassignedD5 (s : State) : Host.Outcome State Fault Refusal :=
  execUnassigned s

/-- R66, the unassigned byte 0xD6. -/
def execUnassignedD6 (s : State) : Host.Outcome State Fault Refusal :=
  execUnassigned s

/-- R66, the unassigned byte 0xD7. -/
def execUnassignedD7 (s : State) : Host.Outcome State Fault Refusal :=
  execUnassigned s

/-- R66, the unassigned byte 0xD8. -/
def execUnassignedD8 (s : State) : Host.Outcome State Fault Refusal :=
  execUnassigned s

/-- R66, the unassigned byte 0xD9. -/
def execUnassignedD9 (s : State) : Host.Outcome State Fault Refusal :=
  execUnassigned s

/-- R66, the unassigned byte 0xDA. -/
def execUnassignedDA (s : State) : Host.Outcome State Fault Refusal :=
  execUnassigned s

/-- R66, the unassigned byte 0xDB. -/
def execUnassignedDB (s : State) : Host.Outcome State Fault Refusal :=
  execUnassigned s

/-- R66, the unassigned byte 0xDC. -/
def execUnassignedDC (s : State) : Host.Outcome State Fault Refusal :=
  execUnassigned s

/-- R66, the unassigned byte 0xDD. -/
def execUnassignedDD (s : State) : Host.Outcome State Fault Refusal :=
  execUnassigned s

/-- R66, the unassigned byte 0xDE. -/
def execUnassignedDE (s : State) : Host.Outcome State Fault Refusal :=
  execUnassigned s

/-- R66, the unassigned byte 0xDF. -/
def execUnassignedDF (s : State) : Host.Outcome State Fault Refusal :=
  execUnassigned s

/-- R66, the unassigned byte 0xE0. -/
def execUnassignedE0 (s : State) : Host.Outcome State Fault Refusal :=
  execUnassigned s

/-- R66, the unassigned byte 0xE1. -/
def execUnassignedE1 (s : State) : Host.Outcome State Fault Refusal :=
  execUnassigned s

/-- R66, the unassigned byte 0xE2. -/
def execUnassignedE2 (s : State) : Host.Outcome State Fault Refusal :=
  execUnassigned s

/-- R66, the unassigned byte 0xE3. -/
def execUnassignedE3 (s : State) : Host.Outcome State Fault Refusal :=
  execUnassigned s

/-- R66, the unassigned byte 0xE4. -/
def execUnassignedE4 (s : State) : Host.Outcome State Fault Refusal :=
  execUnassigned s

/-- R66, the unassigned byte 0xE5. -/
def execUnassignedE5 (s : State) : Host.Outcome State Fault Refusal :=
  execUnassigned s

/-- R66, the unassigned byte 0xE6. -/
def execUnassignedE6 (s : State) : Host.Outcome State Fault Refusal :=
  execUnassigned s

/-- R66, the unassigned byte 0xE7. -/
def execUnassignedE7 (s : State) : Host.Outcome State Fault Refusal :=
  execUnassigned s

/-- R66, the unassigned byte 0xE8. -/
def execUnassignedE8 (s : State) : Host.Outcome State Fault Refusal :=
  execUnassigned s

/-- R66, the unassigned byte 0xE9. -/
def execUnassignedE9 (s : State) : Host.Outcome State Fault Refusal :=
  execUnassigned s

/-- R66, the unassigned byte 0xEA. -/
def execUnassignedEA (s : State) : Host.Outcome State Fault Refusal :=
  execUnassigned s

/-- R66, the unassigned byte 0xEB. -/
def execUnassignedEB (s : State) : Host.Outcome State Fault Refusal :=
  execUnassigned s

/-- R66, the unassigned byte 0xEC. -/
def execUnassignedEC (s : State) : Host.Outcome State Fault Refusal :=
  execUnassigned s

/-- R66, the unassigned byte 0xED. -/
def execUnassignedED (s : State) : Host.Outcome State Fault Refusal :=
  execUnassigned s

/-- R66, the unassigned byte 0xEE. -/
def execUnassignedEE (s : State) : Host.Outcome State Fault Refusal :=
  execUnassigned s

/-- R66, the unassigned byte 0xEF. -/
def execUnassignedEF (s : State) : Host.Outcome State Fault Refusal :=
  execUnassigned s

/-- R66, the unassigned byte 0xF0. -/
def execUnassignedF0 (s : State) : Host.Outcome State Fault Refusal :=
  execUnassigned s

/-- R66, the unassigned byte 0xF1. -/
def execUnassignedF1 (s : State) : Host.Outcome State Fault Refusal :=
  execUnassigned s

/-- R66, the unassigned byte 0xF2. -/
def execUnassignedF2 (s : State) : Host.Outcome State Fault Refusal :=
  execUnassigned s

/-- R66, the unassigned byte 0xF3. -/
def execUnassignedF3 (s : State) : Host.Outcome State Fault Refusal :=
  execUnassigned s

/-- R66, the unassigned byte 0xF4. -/
def execUnassignedF4 (s : State) : Host.Outcome State Fault Refusal :=
  execUnassigned s

/-- R66, the unassigned byte 0xF5. -/
def execUnassignedF5 (s : State) : Host.Outcome State Fault Refusal :=
  execUnassigned s

/-- R66, the unassigned byte 0xF6. -/
def execUnassignedF6 (s : State) : Host.Outcome State Fault Refusal :=
  execUnassigned s

/-- R66, the unassigned byte 0xF7. -/
def execUnassignedF7 (s : State) : Host.Outcome State Fault Refusal :=
  execUnassigned s

/-- R66, the unassigned byte 0xF8. -/
def execUnassignedF8 (s : State) : Host.Outcome State Fault Refusal :=
  execUnassigned s

/-- R66, the unassigned byte 0xF9. -/
def execUnassignedF9 (s : State) : Host.Outcome State Fault Refusal :=
  execUnassigned s

/-- R66, the unassigned byte 0xFA. -/
def execUnassignedFA (s : State) : Host.Outcome State Fault Refusal :=
  execUnassigned s

/-- R66, the unassigned byte 0xFB. -/
def execUnassignedFB (s : State) : Host.Outcome State Fault Refusal :=
  execUnassigned s

/-- R66, the unassigned byte 0xFC. -/
def execUnassignedFC (s : State) : Host.Outcome State Fault Refusal :=
  execUnassigned s

/-- R66, the unassigned byte 0xFD. -/
def execUnassignedFD (s : State) : Host.Outcome State Fault Refusal :=
  execUnassigned s

/-- R66, the unassigned byte 0xFE. -/
def execUnassignedFE (s : State) : Host.Outcome State Fault Refusal :=
  execUnassigned s

/-- R66, the unassigned byte 0xFF. -/
def execUnassignedFF (s : State) : Host.Outcome State Fault Refusal :=
  execUnassigned s


end Sys2Proof.Machine
end

