-- ==== Sys2Proof/Machine/Dispatch.lean ====
section
/-! DEFINITION. The dispatch of an instruction to its meaning (40_dispatch_and_stack.md R63, R65), one arm per
constructor. exec is given the state at the start of the step, pc at the opcode byte. -/

namespace Sys2Proof.Machine

def exec (i : Instr) (s : State) : Host.Outcome State Fault Refusal :=
  match i with
  | .stop => Sys2Proof.Machine.execStop s
  | .add => Sys2Proof.Machine.execAdd s
  | .mul => Sys2Proof.Machine.execMul s
  | .sub => Sys2Proof.Machine.execSub s
  | .div => Sys2Proof.Machine.execDiv s
  | .sdiv => Sys2Proof.Machine.execSdiv s
  | .mod => Sys2Proof.Machine.execMod s
  | .smod => Sys2Proof.Machine.execSmod s
  | .addmod => Sys2Proof.Machine.execAddmod s
  | .mulmod => Sys2Proof.Machine.execMulmod s
  | .exp => Sys2Proof.Machine.execExp s
  | .signextend => Sys2Proof.Machine.execSignextend s
  | .unassigned0C => Sys2Proof.Machine.execUnassigned0C s
  | .unassigned0D => Sys2Proof.Machine.execUnassigned0D s
  | .unassigned0E => Sys2Proof.Machine.execUnassigned0E s
  | .unassigned0F => Sys2Proof.Machine.execUnassigned0F s
  | .lt => Sys2Proof.Machine.execLt s
  | .gt => Sys2Proof.Machine.execGt s
  | .slt => Sys2Proof.Machine.execSlt s
  | .sgt => Sys2Proof.Machine.execSgt s
  | .eq => Sys2Proof.Machine.execEq s
  | .iszero => Sys2Proof.Machine.execIszero s
  | .and => Sys2Proof.Machine.execAnd s
  | .or => Sys2Proof.Machine.execOr s
  | .xor => Sys2Proof.Machine.execXor s
  | .not => Sys2Proof.Machine.execNot s
  | .unassigned1A => Sys2Proof.Machine.execUnassigned1A s
  | .shl => Sys2Proof.Machine.execShl s
  | .shr => Sys2Proof.Machine.execShr s
  | .sar => Sys2Proof.Machine.execSar s
  | .unassigned1E => Sys2Proof.Machine.execUnassigned1E s
  | .unassigned1F => Sys2Proof.Machine.execUnassigned1F s
  | .unassigned20 => Sys2Proof.Machine.execUnassigned20 s
  | .unassigned21 => Sys2Proof.Machine.execUnassigned21 s
  | .unassigned22 => Sys2Proof.Machine.execUnassigned22 s
  | .unassigned23 => Sys2Proof.Machine.execUnassigned23 s
  | .unassigned24 => Sys2Proof.Machine.execUnassigned24 s
  | .unassigned25 => Sys2Proof.Machine.execUnassigned25 s
  | .unassigned26 => Sys2Proof.Machine.execUnassigned26 s
  | .unassigned27 => Sys2Proof.Machine.execUnassigned27 s
  | .unassigned28 => Sys2Proof.Machine.execUnassigned28 s
  | .unassigned29 => Sys2Proof.Machine.execUnassigned29 s
  | .unassigned2A => Sys2Proof.Machine.execUnassigned2A s
  | .unassigned2B => Sys2Proof.Machine.execUnassigned2B s
  | .unassigned2C => Sys2Proof.Machine.execUnassigned2C s
  | .unassigned2D => Sys2Proof.Machine.execUnassigned2D s
  | .unassigned2E => Sys2Proof.Machine.execUnassigned2E s
  | .unassigned2F => Sys2Proof.Machine.execUnassigned2F s
  | .unassigned30 => Sys2Proof.Machine.execUnassigned30 s
  | .unassigned31 => Sys2Proof.Machine.execUnassigned31 s
  | .unassigned32 => Sys2Proof.Machine.execUnassigned32 s
  | .unassigned33 => Sys2Proof.Machine.execUnassigned33 s
  | .unassigned34 => Sys2Proof.Machine.execUnassigned34 s
  | .unassigned35 => Sys2Proof.Machine.execUnassigned35 s
  | .unassigned36 => Sys2Proof.Machine.execUnassigned36 s
  | .unassigned37 => Sys2Proof.Machine.execUnassigned37 s
  | .unassigned38 => Sys2Proof.Machine.execUnassigned38 s
  | .unassigned39 => Sys2Proof.Machine.execUnassigned39 s
  | .unassigned3A => Sys2Proof.Machine.execUnassigned3A s
  | .unassigned3B => Sys2Proof.Machine.execUnassigned3B s
  | .unassigned3C => Sys2Proof.Machine.execUnassigned3C s
  | .unassigned3D => Sys2Proof.Machine.execUnassigned3D s
  | .unassigned3E => Sys2Proof.Machine.execUnassigned3E s
  | .unassigned3F => Sys2Proof.Machine.execUnassigned3F s
  | .unassigned40 => Sys2Proof.Machine.execUnassigned40 s
  | .unassigned41 => Sys2Proof.Machine.execUnassigned41 s
  | .unassigned42 => Sys2Proof.Machine.execUnassigned42 s
  | .unassigned43 => Sys2Proof.Machine.execUnassigned43 s
  | .unassigned44 => Sys2Proof.Machine.execUnassigned44 s
  | .unassigned45 => Sys2Proof.Machine.execUnassigned45 s
  | .unassigned46 => Sys2Proof.Machine.execUnassigned46 s
  | .unassigned47 => Sys2Proof.Machine.execUnassigned47 s
  | .unassigned48 => Sys2Proof.Machine.execUnassigned48 s
  | .unassigned49 => Sys2Proof.Machine.execUnassigned49 s
  | .unassigned4A => Sys2Proof.Machine.execUnassigned4A s
  | .unassigned4B => Sys2Proof.Machine.execUnassigned4B s
  | .unassigned4C => Sys2Proof.Machine.execUnassigned4C s
  | .unassigned4D => Sys2Proof.Machine.execUnassigned4D s
  | .unassigned4E => Sys2Proof.Machine.execUnassigned4E s
  | .unassigned4F => Sys2Proof.Machine.execUnassigned4F s
  | .pop => Sys2Proof.Machine.execPop s
  | .unassigned51 => Sys2Proof.Machine.execUnassigned51 s
  | .unassigned52 => Sys2Proof.Machine.execUnassigned52 s
  | .unassigned53 => Sys2Proof.Machine.execUnassigned53 s
  | .unassigned54 => Sys2Proof.Machine.execUnassigned54 s
  | .unassigned55 => Sys2Proof.Machine.execUnassigned55 s
  | .unassigned56 => Sys2Proof.Machine.execUnassigned56 s
  | .unassigned57 => Sys2Proof.Machine.execUnassigned57 s
  | .unassigned58 => Sys2Proof.Machine.execUnassigned58 s
  | .unassigned59 => Sys2Proof.Machine.execUnassigned59 s
  | .unassigned5A => Sys2Proof.Machine.execUnassigned5A s
  | .unassigned5B => Sys2Proof.Machine.execUnassigned5B s
  | .unassigned5C => Sys2Proof.Machine.execUnassigned5C s
  | .unassigned5D => Sys2Proof.Machine.execUnassigned5D s
  | .unassigned5E => Sys2Proof.Machine.execUnassigned5E s
  | .push0 => Sys2Proof.Machine.execPush0 s
  | .push1 imm => Sys2Proof.Machine.execPush1 imm s
  | .push2 imm => Sys2Proof.Machine.execPush2 imm s
  | .push3 imm => Sys2Proof.Machine.execPush3 imm s
  | .push4 imm => Sys2Proof.Machine.execPush4 imm s
  | .push5 imm => Sys2Proof.Machine.execPush5 imm s
  | .push6 imm => Sys2Proof.Machine.execPush6 imm s
  | .push7 imm => Sys2Proof.Machine.execPush7 imm s
  | .push8 imm => Sys2Proof.Machine.execPush8 imm s
  | .push9 imm => Sys2Proof.Machine.execPush9 imm s
  | .push10 imm => Sys2Proof.Machine.execPush10 imm s
  | .push11 imm => Sys2Proof.Machine.execPush11 imm s
  | .push12 imm => Sys2Proof.Machine.execPush12 imm s
  | .push13 imm => Sys2Proof.Machine.execPush13 imm s
  | .push14 imm => Sys2Proof.Machine.execPush14 imm s
  | .push15 imm => Sys2Proof.Machine.execPush15 imm s
  | .push16 imm => Sys2Proof.Machine.execPush16 imm s
  | .push17 imm => Sys2Proof.Machine.execPush17 imm s
  | .push18 imm => Sys2Proof.Machine.execPush18 imm s
  | .push19 imm => Sys2Proof.Machine.execPush19 imm s
  | .push20 imm => Sys2Proof.Machine.execPush20 imm s
  | .push21 imm => Sys2Proof.Machine.execPush21 imm s
  | .push22 imm => Sys2Proof.Machine.execPush22 imm s
  | .push23 imm => Sys2Proof.Machine.execPush23 imm s
  | .push24 imm => Sys2Proof.Machine.execPush24 imm s
  | .push25 imm => Sys2Proof.Machine.execPush25 imm s
  | .push26 imm => Sys2Proof.Machine.execPush26 imm s
  | .push27 imm => Sys2Proof.Machine.execPush27 imm s
  | .push28 imm => Sys2Proof.Machine.execPush28 imm s
  | .push29 imm => Sys2Proof.Machine.execPush29 imm s
  | .push30 imm => Sys2Proof.Machine.execPush30 imm s
  | .push31 imm => Sys2Proof.Machine.execPush31 imm s
  | .push32 imm => Sys2Proof.Machine.execPush32 imm s
  | .unassigned80 => Sys2Proof.Machine.execUnassigned80 s
  | .unassigned81 => Sys2Proof.Machine.execUnassigned81 s
  | .unassigned82 => Sys2Proof.Machine.execUnassigned82 s
  | .unassigned83 => Sys2Proof.Machine.execUnassigned83 s
  | .unassigned84 => Sys2Proof.Machine.execUnassigned84 s
  | .unassigned85 => Sys2Proof.Machine.execUnassigned85 s
  | .unassigned86 => Sys2Proof.Machine.execUnassigned86 s
  | .unassigned87 => Sys2Proof.Machine.execUnassigned87 s
  | .unassigned88 => Sys2Proof.Machine.execUnassigned88 s
  | .unassigned89 => Sys2Proof.Machine.execUnassigned89 s
  | .unassigned8A => Sys2Proof.Machine.execUnassigned8A s
  | .unassigned8B => Sys2Proof.Machine.execUnassigned8B s
  | .unassigned8C => Sys2Proof.Machine.execUnassigned8C s
  | .unassigned8D => Sys2Proof.Machine.execUnassigned8D s
  | .unassigned8E => Sys2Proof.Machine.execUnassigned8E s
  | .unassigned8F => Sys2Proof.Machine.execUnassigned8F s
  | .unassigned90 => Sys2Proof.Machine.execUnassigned90 s
  | .unassigned91 => Sys2Proof.Machine.execUnassigned91 s
  | .unassigned92 => Sys2Proof.Machine.execUnassigned92 s
  | .unassigned93 => Sys2Proof.Machine.execUnassigned93 s
  | .unassigned94 => Sys2Proof.Machine.execUnassigned94 s
  | .unassigned95 => Sys2Proof.Machine.execUnassigned95 s
  | .unassigned96 => Sys2Proof.Machine.execUnassigned96 s
  | .unassigned97 => Sys2Proof.Machine.execUnassigned97 s
  | .unassigned98 => Sys2Proof.Machine.execUnassigned98 s
  | .unassigned99 => Sys2Proof.Machine.execUnassigned99 s
  | .unassigned9A => Sys2Proof.Machine.execUnassigned9A s
  | .unassigned9B => Sys2Proof.Machine.execUnassigned9B s
  | .unassigned9C => Sys2Proof.Machine.execUnassigned9C s
  | .unassigned9D => Sys2Proof.Machine.execUnassigned9D s
  | .unassigned9E => Sys2Proof.Machine.execUnassigned9E s
  | .unassigned9F => Sys2Proof.Machine.execUnassigned9F s
  | .unassignedA0 => Sys2Proof.Machine.execUnassignedA0 s
  | .unassignedA1 => Sys2Proof.Machine.execUnassignedA1 s
  | .unassignedA2 => Sys2Proof.Machine.execUnassignedA2 s
  | .unassignedA3 => Sys2Proof.Machine.execUnassignedA3 s
  | .unassignedA4 => Sys2Proof.Machine.execUnassignedA4 s
  | .unassignedA5 => Sys2Proof.Machine.execUnassignedA5 s
  | .unassignedA6 => Sys2Proof.Machine.execUnassignedA6 s
  | .unassignedA7 => Sys2Proof.Machine.execUnassignedA7 s
  | .unassignedA8 => Sys2Proof.Machine.execUnassignedA8 s
  | .unassignedA9 => Sys2Proof.Machine.execUnassignedA9 s
  | .unassignedAA => Sys2Proof.Machine.execUnassignedAA s
  | .unassignedAB => Sys2Proof.Machine.execUnassignedAB s
  | .unassignedAC => Sys2Proof.Machine.execUnassignedAC s
  | .unassignedAD => Sys2Proof.Machine.execUnassignedAD s
  | .unassignedAE => Sys2Proof.Machine.execUnassignedAE s
  | .unassignedAF => Sys2Proof.Machine.execUnassignedAF s
  | .unassignedB0 => Sys2Proof.Machine.execUnassignedB0 s
  | .unassignedB1 => Sys2Proof.Machine.execUnassignedB1 s
  | .unassignedB2 => Sys2Proof.Machine.execUnassignedB2 s
  | .unassignedB3 => Sys2Proof.Machine.execUnassignedB3 s
  | .unassignedB4 => Sys2Proof.Machine.execUnassignedB4 s
  | .unassignedB5 => Sys2Proof.Machine.execUnassignedB5 s
  | .unassignedB6 => Sys2Proof.Machine.execUnassignedB6 s
  | .unassignedB7 => Sys2Proof.Machine.execUnassignedB7 s
  | .unassignedB8 => Sys2Proof.Machine.execUnassignedB8 s
  | .unassignedB9 => Sys2Proof.Machine.execUnassignedB9 s
  | .unassignedBA => Sys2Proof.Machine.execUnassignedBA s
  | .unassignedBB => Sys2Proof.Machine.execUnassignedBB s
  | .unassignedBC => Sys2Proof.Machine.execUnassignedBC s
  | .unassignedBD => Sys2Proof.Machine.execUnassignedBD s
  | .unassignedBE => Sys2Proof.Machine.execUnassignedBE s
  | .unassignedBF => Sys2Proof.Machine.execUnassignedBF s
  | .unassignedC0 => Sys2Proof.Machine.execUnassignedC0 s
  | .unassignedC1 => Sys2Proof.Machine.execUnassignedC1 s
  | .unassignedC2 => Sys2Proof.Machine.execUnassignedC2 s
  | .unassignedC3 => Sys2Proof.Machine.execUnassignedC3 s
  | .unassignedC4 => Sys2Proof.Machine.execUnassignedC4 s
  | .unassignedC5 => Sys2Proof.Machine.execUnassignedC5 s
  | .unassignedC6 => Sys2Proof.Machine.execUnassignedC6 s
  | .unassignedC7 => Sys2Proof.Machine.execUnassignedC7 s
  | .unassignedC8 => Sys2Proof.Machine.execUnassignedC8 s
  | .unassignedC9 => Sys2Proof.Machine.execUnassignedC9 s
  | .unassignedCA => Sys2Proof.Machine.execUnassignedCA s
  | .unassignedCB => Sys2Proof.Machine.execUnassignedCB s
  | .unassignedCC => Sys2Proof.Machine.execUnassignedCC s
  | .unassignedCD => Sys2Proof.Machine.execUnassignedCD s
  | .unassignedCE => Sys2Proof.Machine.execUnassignedCE s
  | .unassignedCF => Sys2Proof.Machine.execUnassignedCF s
  | .unassignedD0 => Sys2Proof.Machine.execUnassignedD0 s
  | .unassignedD1 => Sys2Proof.Machine.execUnassignedD1 s
  | .unassignedD2 => Sys2Proof.Machine.execUnassignedD2 s
  | .unassignedD3 => Sys2Proof.Machine.execUnassignedD3 s
  | .unassignedD4 => Sys2Proof.Machine.execUnassignedD4 s
  | .unassignedD5 => Sys2Proof.Machine.execUnassignedD5 s
  | .unassignedD6 => Sys2Proof.Machine.execUnassignedD6 s
  | .unassignedD7 => Sys2Proof.Machine.execUnassignedD7 s
  | .unassignedD8 => Sys2Proof.Machine.execUnassignedD8 s
  | .unassignedD9 => Sys2Proof.Machine.execUnassignedD9 s
  | .unassignedDA => Sys2Proof.Machine.execUnassignedDA s
  | .unassignedDB => Sys2Proof.Machine.execUnassignedDB s
  | .unassignedDC => Sys2Proof.Machine.execUnassignedDC s
  | .unassignedDD => Sys2Proof.Machine.execUnassignedDD s
  | .unassignedDE => Sys2Proof.Machine.execUnassignedDE s
  | .unassignedDF => Sys2Proof.Machine.execUnassignedDF s
  | .unassignedE0 => Sys2Proof.Machine.execUnassignedE0 s
  | .unassignedE1 => Sys2Proof.Machine.execUnassignedE1 s
  | .unassignedE2 => Sys2Proof.Machine.execUnassignedE2 s
  | .unassignedE3 => Sys2Proof.Machine.execUnassignedE3 s
  | .unassignedE4 => Sys2Proof.Machine.execUnassignedE4 s
  | .unassignedE5 => Sys2Proof.Machine.execUnassignedE5 s
  | .unassignedE6 => Sys2Proof.Machine.execUnassignedE6 s
  | .unassignedE7 => Sys2Proof.Machine.execUnassignedE7 s
  | .unassignedE8 => Sys2Proof.Machine.execUnassignedE8 s
  | .unassignedE9 => Sys2Proof.Machine.execUnassignedE9 s
  | .unassignedEA => Sys2Proof.Machine.execUnassignedEA s
  | .unassignedEB => Sys2Proof.Machine.execUnassignedEB s
  | .unassignedEC => Sys2Proof.Machine.execUnassignedEC s
  | .unassignedED => Sys2Proof.Machine.execUnassignedED s
  | .unassignedEE => Sys2Proof.Machine.execUnassignedEE s
  | .unassignedEF => Sys2Proof.Machine.execUnassignedEF s
  | .unassignedF0 => Sys2Proof.Machine.execUnassignedF0 s
  | .unassignedF1 => Sys2Proof.Machine.execUnassignedF1 s
  | .unassignedF2 => Sys2Proof.Machine.execUnassignedF2 s
  | .unassignedF3 => Sys2Proof.Machine.execUnassignedF3 s
  | .unassignedF4 => Sys2Proof.Machine.execUnassignedF4 s
  | .unassignedF5 => Sys2Proof.Machine.execUnassignedF5 s
  | .unassignedF6 => Sys2Proof.Machine.execUnassignedF6 s
  | .unassignedF7 => Sys2Proof.Machine.execUnassignedF7 s
  | .unassignedF8 => Sys2Proof.Machine.execUnassignedF8 s
  | .unassignedF9 => Sys2Proof.Machine.execUnassignedF9 s
  | .unassignedFA => Sys2Proof.Machine.execUnassignedFA s
  | .unassignedFB => Sys2Proof.Machine.execUnassignedFB s
  | .unassignedFC => Sys2Proof.Machine.execUnassignedFC s
  | .unassignedFD => Sys2Proof.Machine.execUnassignedFD s
  | .unassignedFE => Sys2Proof.Machine.execUnassignedFE s
  | .unassignedFF => Sys2Proof.Machine.execUnassignedFF s

end Sys2Proof.Machine
end

