-- ==== Sys2Proof/Machine/Step.lean ====
section
/-! DEFINITION. One step of the machine (40_dispatch_and_stack.md R63), and the host's way to place one instruction
where the step fetches. -/

namespace Sys2Proof.Machine

/-- R63: the step over the dispatch of `exec`. -/
def step (s : State) : Host.Outcome State Fault Refusal :=
  runStep exec s

/-- `s` with the instruction whose bits are `w` in the code at pc, the code long enough to hold it and the step enabled
(log entry 6). -/
def State.withFetchWord (s : State) (nbits w : Nat) : State :=
  s.placeAtPc (tableBytes nbits w)

end Sys2Proof.Machine
end

