-- ==== Sys2Proof/Safety.lean ====
section
/-! DEFINITION. The terms claims are stated in: which states a run can be in (`State.Inv`), where the dispatcher runs an
instruction, the states an instruction leaves (40_dispatch_and_stack.md R63, 60_exceptions.md R138), and R63's
pseudocode transcribed by class. They are written from the rules, apart from Ops.lean. -/

namespace Sys2Proof.Machine

/-- R134, 10_state.md R24: a cause the parameters allow at all. -/
def causePossible (c : Config) : FaultCause → Bool
  | .stackUnderflow => true
  | .invalidOpcode => decide (c.unknownOpcodePolicy = .fault)
  | .stackOverflow => c.stackCapacity.isSome

/-- What the status register says of the rest of the state: R67 (a running machine stands at an opcode, unless there is
no code), R25 (success), R138 (pc is past the faulting opcode) and R134. -/
def statusAgrees (s : State) : Prop :=
  match s.status with
  | .running => s.pc < s.codeLen ∨ s.codeLen = 0
  | .halted => s.success = true
  | .faulted c => s.success = false ∧ 0 < s.pc ∧ causePossible s.cfg c = true

/-- The invariant of a run: the code ROM is canonical and inside the code (R30), pc does not pass the code (R21), the
stack is within its capacity (R19), and the status agrees with the rest. -/
structure State.Inv (s : State) : Prop where
  memory : Memory.wf s.code = true
  inside : ∀ c ∈ s.code, c.1 < s.codeLen
  pcBound : s.pc ≤ s.codeLen
  capacity : s.cfg.admits s.depth = true
  agrees : statusAgrees s

/-- R63, R65: the step fetches and runs an instruction here. -/
def State.Dispatching (s : State) : Prop :=
  s.status = .running ∧ s.pc < s.codeLen

/-- R63, R67: the state after an instruction that completed with pc and the stack as given; the end of code halts. -/
def State.completedAt (s : State) (pc : Nat) (stack : List Word) : State :=
  if s.codeLen ≤ pc then { s with pc := pc, stack := stack, status := .halted, success := true }
  else { s with pc := pc, stack := stack }

/-- R138: the state after a fault of the instruction at pc. -/
def State.faultedBy (s : State) (cause : FaultCause) : State :=
  { s with pc := s.pc + 1, status := .faulted cause, success := false }

/-- R54, R72: `ImmByte(p+1) ++ … ++ ImmByte(p+m)` as an unsigned number of `8m` bits. -/
def immConcat (s : State) (p : Nat) : Nat → Nat
  | 0 => 0
  | m + 1 => immConcat s p m * 256 + (s.immByte (p + 1 + m)).toNat

/-- R72 `Imm(p, k)` in both truncation modes. -/
def immAt (s : State) (p k : Nat) : Word :=
  match s.cfg.truncPushMode with
  | .zeroFill => BitVec.ofNat 256 (immConcat s p k)
  | .omit => BitVec.ofNat 256 (immConcat s p (min k (s.codeLen - (p + 1))))

/-- R63, `step()` in full, for a running machine. -/
def stepPseudocode (s : State) : State :=
  if s.codeLen ≤ s.pc then { s with status := .halted, success := true }
  else
    match decodeOpcode (s.immByte s.pc) with
    | (.stop, _, _) => { s with pc := s.pc + 1, status := .halted, success := true }
    | (.unassigned, _, _) =>
      if s.cfg.unknownOpcodePolicy = .fault then s.faultedBy .invalidOpcode
      else s.completedAt (s.pc + 1) s.stack
    | (.push, _, k) =>
      if s.cfg.stackCapacity = some s.stack.length then s.faultedBy .stackOverflow
      else s.completedAt (min (s.pc + 1 + k) s.codeLen) (immAt s s.pc k :: s.stack)
    | (.pop, _, _) =>
      if s.stack.length < 1 then s.faultedBy .stackUnderflow
      else s.completedAt (s.pc + 1) s.stack.tail
    | (.alu f, n, _) =>
      if s.stack.length < n then s.faultedBy .stackUnderflow
      else s.completedAt (s.pc + 1)
        (alu f (s.stack.getD 0 0) (s.stack.getD 1 0) (s.stack.getD 2 0) :: s.stack.drop n)

/-- The condition under which instruction `i` raises the fault `cause` where the dispatcher runs it (R66, R68, R69). -/
def raises (i : Instr) (s : State) : FaultCause → Prop
  | .stackUnderflow => s.stack.length < arityOf i
  | .invalidOpcode => classOf i = .unassigned ∧ s.cfg.unknownOpcodePolicy = .fault
  | .stackOverflow => classOf i = .push ∧ s.cfg.stackCapacity = some s.stack.length

/-- Instruction `i` of arity 1 completes with a result in relation `R` to its operand, and changes nothing else. -/
def Pushes1 (i : Instr) (R : Word → Word → Prop) : Prop :=
  ∀ (s : State) (a : Word) (below : List Word), s.Dispatching → s.stack = a :: below →
    ∃ r, exec i s = .next (s.completedAt (s.pc + 1) (r :: below)) ∧ R a r

/-- The same of an instruction of arity 2; `a` is the first popped Word. -/
def Pushes2 (i : Instr) (R : Word → Word → Word → Prop) : Prop :=
  ∀ (s : State) (a b : Word) (below : List Word), s.Dispatching → s.stack = a :: b :: below →
    ∃ r, exec i s = .next (s.completedAt (s.pc + 1) (r :: below)) ∧ R a b r

/-- The same of an instruction of arity 3. -/
def Pushes3 (i : Instr) (R : Word → Word → Word → Word → Prop) : Prop :=
  ∀ (s : State) (a b c : Word) (below : List Word), s.Dispatching → s.stack = a :: b :: c :: below →
    ∃ r, exec i s = .next (s.completedAt (s.pc + 1) (r :: below)) ∧ R a b c r

/-- A whole-word bit-for-bit relation (43_bitwise_shift.md R126): bit `j` of the result is `f j`, for every bit. -/
def BitsAre (r : Word) (f : Nat → Bool) : Prop :=
  ∀ j < 256, r.getLsbD j = f j

end Sys2Proof.Machine
end

