-- ==== Sys2Proof/Certificates/Slice0/Obligations.lean ====
section
/-! DEFINITION. The statements for the provers, from the numbered rules of spec/. Each docstring names the rule it
formalises. The hypothesis `s.Dispatching` is R63's own: status is Running and pc is inside the code. The next state
is given whole, so every statement of a result says the frame as well: `completedAt` and `faultedBy` (Safety.lean)
change pc, the stack where given, status and success, and nothing else. `completedAt` rests on R65 and R67, `faultedBy` on
R65 and R138, whose pc advance, end-of-code test and fault entry the spec marks as its own decisions (92 D6, D7, D15,
D17); so does every statement that uses them. -/

open Sys2Proof Sys2Proof.Machine

/-- R51–R56: no bit of an encoding is dropped. The opcode numbers rest on 93 G2 (log entry 9). -/
def Obligations.DecodeOfEncodeGivesTheInstruction : Prop :=
  ∀ (mode : TruncPushMode) (i : Instr) (rest : List Byte), wellFormed i = true →
    decode mode (encode i ++ rest) = .ok (i, rest)

/-- R53, R54, R59: each complete encoding has one meaning and one spelling. -/
def Obligations.EncodeOfDecodeGivesTheBytes : Prop :=
  ∀ (mode : TruncPushMode) (b : Byte) (bs : List Byte) (i : Instr) (rest : List Byte),
    immLength b ≤ bs.length → decode mode (b :: bs) = .ok (i, rest) →
      wellFormed i = true ∧ encode i ++ rest = b :: bs

/-- R57 (marked derived in the spec), R59. -/
def Obligations.EveryByteDecodesByItsOpcodeAlone : Prop :=
  ∀ (mode : TruncPushMode), decode mode [] = .error .endOfCode ∧
    ∀ (b : Byte) (bs : List Byte), ∃ i,
      decode mode (b :: bs) = .ok (i, bs.drop (immLength b)) ∧ opcodeOf i = b ∧ wellFormed i = true

/-- R58, R53. The numbers rest on 93 G2 (log entry 9). The spec marks this as its own decision (92 D2). -/
def Obligations.UnassignedBytesAreThoseOfTheMap : Prop :=
  ∀ b : Byte,
    (opClass b = .unassigned ↔
      (0x0C ≤ b.toNat ∧ b.toNat ≤ 0x0F) ∨ b.toNat = 0x1A ∨ (0x1E ≤ b.toNat ∧ b.toNat ≤ 0x4F) ∨
        (0x51 ≤ b.toNat ∧ b.toNat ≤ 0x5E) ∨ 0x80 ≤ b.toNat) ∧
    (opClass b = .push ↔ 0x5F ≤ b.toNat ∧ b.toNat ≤ 0x7F) ∧
    (opClass b = .push → (decodeOpcode b).2.2 = b.toNat - 0x5F)

/-- R56, R39 with the source's example of PUSH2, and the truncated example of R54, which the spec marks as its own
decision (92 D3; the decoder completes or cuts the immediate, log entry 11). The numbers rest on 93 G2 (log entry 9).
-/
def Obligations.WordsOfTheMapDecode : Prop :=
  (∀ mode, decode mode [0x00] = .ok (.stop, []) ∧ decode mode [0x01] = .ok (.add, []) ∧
    decode mode [0x0B] = .ok (.signextend, []) ∧ decode mode [0x10] = .ok (.lt, []) ∧
    decode mode [0x15] = .ok (.iszero, []) ∧ decode mode [0x16] = .ok (.and, []) ∧
    decode mode [0x1D] = .ok (.sar, []) ∧ decode mode [0x50] = .ok (.pop, []) ∧
    decode mode [0x5F] = .ok (.push0, []) ∧ decode mode [0x61, 0x01, 0x02] = .ok (.push2 0x0102, []) ∧
    decode mode (0x7F :: List.replicate 32 0xFF) = .ok (.push32 allOnes, []) ∧
    decode mode [0x1A] = .ok (.unassigned1A, [])) ∧
  decode .zeroFill [0x62, 0xAB] = .ok (.push3 0xAB0000, []) ∧ decode .omit [0x62, 0xAB] = .ok (.push3 0xAB, [])

/-- R39, with the byte order the same in both modes ("The byte order is fixed"). -/
def Obligations.ImmediateIsBigEndian : Prop :=
  ∀ (mode : TruncPushMode) (bs : List Byte), bs.length ≤ 32 →
    (assembleImm mode bs.length bs).toNat =
      ∑ j ∈ Finset.range bs.length, (bs.getD j 0).toNat * 256 ^ (bs.length - 1 - j)

/-- R54, with `immAt` (Safety.lean) its formula in both modes. The spec marks this as its own decision (92 D3). -/
def Obligations.FetchAssemblesTheImmediateFromTheCode : Prop :=
  ∀ s : State, s.Dispatching →
    ∃ i, s.fetch = .ok i ∧ opcodeOf i = s.immByte s.pc ∧ wellFormed i = true ∧
      (0 < immLength (s.immByte s.pc) →
        immediateOf i = (immLength (s.immByte s.pc), immAt s s.pc (immLength (s.immByte s.pc))))

/-- R63, R65. exec is given the state at the opcode byte (log entry 10). The spec marks this as its own decision (92
D7). -/
def Obligations.StepRunsTheDecodedInstruction : Prop :=
  ∀ (s : State) (i : Instr) (rest : List Byte), s.Dispatching → wellFormed i = true →
    decode s.cfg.truncPushMode (s.codeFrom maxInstrLength s.pc) = .ok (i, rest) → step s = exec i s

/-- R64. The spec marks this as its own decision (92 D15). -/
def Obligations.StepAtEndOfCodeHalts : Prop :=
  (∀ s : State, s.status = .running → s.codeLen ≤ s.pc →
    step s = .next { s with status := .halted, success := true }) ∧
  (∀ s : State, ∃ t, step (s.start []) = .next t ∧ t.status = .halted ∧ t.stack = [] ∧ t.success = true) ∧
  (∀ s : State, s.Inv → s.status = .running → s.codeLen ≤ s.pc → s.codeLen = 0)

/-- R139; the form of the stop is log entry 4. The spec marks this as its own decision (92 D23). -/
def Obligations.NoStepInTerminalStates : Prop :=
  ∀ s : State, step s = .fault .runEnded ↔ s.status ≠ .running

/-- R63, 93_implementation_defined.md ("a step is enabled exactly while `status = Running`"). -/
def Obligations.EveryRunningStepHasANextState : Prop :=
  ∀ s : State, s.status = .running → ∃ t, step s = .next t

/-- R63 in full, for every parameter value of R8. The spec marks this as its own decisions (92 D2, D3, D5, D6, D7,
D15). -/
def Obligations.StepIsThePseudocode : Prop :=
  ∀ s : State, s.status = .running → step s = .next (stepPseudocode s)

/-- R36, R8; that State holds the parameters, in State.reset with R8's values for this hardware, is log entry 1, the
empty code is log entry 5, and success (log entry 2) enters only through the equality with the start event. The spec
marks this as its own decisions (92 D2, D3, D5, D14). -/
def Obligations.ResetHasTheSpecsValues : Prop :=
  State.reset.pc = 0 ∧ State.reset.stack = [] ∧ State.reset.status = .running ∧
  State.reset.cfg.unknownOpcodePolicy = .nop ∧ State.reset.cfg.truncPushMode = .zeroFill ∧
  State.reset.cfg.stackCapacity = none ∧ State.reset.start [] = State.reset

/-- R36 for the invariant of StepKeepsTheInvariant; the canonical form of the code is log entry 3, the empty code log
entry 5. -/
def Obligations.ResetMeetsTheInvariant : Prop :=
  State.reset.Inv

/-- R148. The parameters are inputs of the block (R150), not state of an earlier run. In the field success,
unspecified in the spec, the equality rests on log entry 2. The spec marks this as its own decision (92 D14). -/
def Obligations.StartSetsTheResetValues : Prop :=
  ∀ (s : State) (codeIn : List Byte),
    (s.start codeIn).codeLen = codeIn.length ∧ (∀ a, (s.start codeIn).readCode a = codeIn[a]?) ∧
    (s.start codeIn).pc = 0 ∧ (s.start codeIn).stack = [] ∧ (s.start codeIn).status = .running ∧
    ∀ s' : State, s'.cfg = s.cfg → s'.start codeIn = s.start codeIn

/-- R148; every run begins in the invariant. The canonical form of the code is log entry 3. -/
def Obligations.StartMeetsTheInvariant : Prop :=
  ∀ (s : State) (codeIn : List Byte), (s.start codeIn).Inv

/-- R19, R21, R25, R30, R67, R134, R138 together, over all instructions; the canonical form of the code is log entry
3. The spec marks this as its own decisions (92 D4, D15, D16). -/
def Obligations.StepKeepsTheInvariant : Prop :=
  ∀ s t : State, s.Inv → step s = .next t → t.Inv

/-- R152 (marked derived there). -/
def Obligations.EveryRunEnds : Prop :=
  ∀ s : State, s.Inv → s.status = .running →
    (∀ t, step s = .next t → t.status = .running → s.pc + 1 ≤ t.pc ∧ t.pc < t.codeLen) ∧
    ∃ k t, 1 ≤ k ∧ k ≤ max 1 (s.codeLen - s.pc) ∧ Host.Core.run Sys2Proof.core k s = .next t ∧ t.status ≠ .running

/-- R21; a natural number has no width to wrap at. The spec marks this as its own decision (92 D4). -/
def Obligations.PcNeverDecreasesAndStaysInTheCode : Prop :=
  ∀ s t : State, s.pc ≤ s.codeLen → step s = .next t → s.pc ≤ t.pc ∧ t.pc ≤ t.codeLen

/-- R8 `PC_WIDTH`, D4. `Config.codeLenMax` is free (log entry 8). The spec marks this as its own decision (92 D4). -/
def Obligations.PhysicalPcWidthSuffices : Prop :=
  ∀ (s t : State) (w : Nat), Config.codeLenMax + 1 ≤ 2 ^ w → s.codeLen ≤ Config.codeLenMax → s.Inv →
    step s = .next t → t.pc < 2 ^ w

/-- R49: the code of one step, and of every run after the start event. -/
def Obligations.CodeIsNeverWritten : Prop :=
  (∀ s t : State, step s = .next t →
    t.code = s.code ∧ t.codeLen = s.codeLen ∧ ∀ a, t.readCode a = s.readCode a) ∧
  (∀ (s t : State) (codeIn : List Byte) (k : Nat), Host.Core.run Sys2Proof.core k (s.start codeIn) = .next t →
    ∀ a, t.readCode a = codeIn[a]?)

/-- R25; that no further step exists is R139. The spec marks this as its own decisions (92 D16, D23). -/
def Obligations.SuccessIsWrittenOnlyAtTheEnd : Prop :=
  ∀ s t : State, step s = .next t →
    (t.status = .halted → t.success = true) ∧ (∀ c, t.status = .faulted c → t.success = false) ∧
    (t.status = .running → t.success = s.success) ∧ (t.status ≠ .running → ∀ v, step t ≠ .next v)

/-- R26, R33, and R25 for the success flag (log entry 9); the form of an absent output is log entry 7. The spec marks
this as its own decisions (92 D13, D16, D24). -/
def Obligations.ExecutionResultAppearsWhenTheRunEnds : Prop :=
  ∀ s t : State, step s = .next t →
    (t.status = .running → t.done = false ∧ t.executionResult = none ∧ t.successOut = none ∧ t.resultStack = none) ∧
    (t.status ≠ .running → t.done = true ∧ t.executionResult = some (t.stack, decide (t.status = .halted)) ∧
      t.successOut = some (decide (t.status = .halted)) ∧ t.resultStack = some t.stack)

/-- R138, over every instruction. The spec marks this as its own decisions (92 D6, D7, D17, D24). -/
def Obligations.FaultEntryWritesStatusAndSuccessOnly : Prop :=
  ∀ (i : Instr) (s t : State) (c : FaultCause), s.Dispatching → exec i s = .next t → t.status = .faulted c →
    t = { s with pc := s.pc + 1, status := .faulted c, success := false } ∧
      t.executionResult = some (s.stack, false)

/-- R134, R140 (marked derived there), R66, R68, R69. The spec marks this as its own decisions (92 D2, D5, D6, D17).
-/
def Obligations.FaultsHappenExactlyOnTheirConditions : Prop :=
  ∀ (i : Instr) (s : State), s.Dispatching →
    (∀ c, (∃ t, exec i s = .next t ∧ t.status = .faulted c) ↔ raises i s c) ∧
    (∀ c c', raises i s c → raises i s c' → c = c')

/-- R136, R137. The spec marks this as its own decisions (92 D2, D5). -/
def Obligations.ThisHardwareRaisesOnlyUnderflow : Prop :=
  ∀ s t : State, step s = .next t → s.status = .running →
    (s.cfg.unknownOpcodePolicy = .nop → t.status ≠ .faulted .invalidOpcode) ∧
    (s.cfg.stackCapacity = none → t.status ≠ .faulted .stackOverflow)

/-- R68, with the arities of R55, stated of each constructor. The spec marks as its own decisions that nothing is
popped (92 D6), POP (92 D10), and that ISZERO and NOT are unary (92 D11). -/
def Obligations.UnderflowPopsNothing : Prop :=
  (∀ (i : Instr) (s : State), s.Dispatching → s.stack.length < arityOf i →
    exec i s = .next { s with pc := s.pc + 1, status := .faulted .stackUnderflow, success := false }) ∧
  (∀ i ∈ [Instr.pop, .iszero, .not], arityOf i = 1) ∧ (∀ i ∈ [Instr.addmod, .mulmod], arityOf i = 3) ∧
  (∀ i ∈ [Instr.add, .mul, .sub, .div, .sdiv, .mod, .smod, .exp, .signextend, .lt, .gt, .slt, .sgt, .eq, .and, .or,
    .xor, .shl, .shr, .sar], arityOf i = 2)

/-- R59, R67. The spec marks this as its own decisions (92 D4, D15). -/
def Obligations.NextInstructionStartsAfterTheLength : Prop :=
  ∀ (i : Instr) (s t : State), s.Dispatching → classOf i ≠ .stop → exec i s = .next t →
    (∀ c, t.status ≠ .faulted c) →
      t.pc = min (s.pc + instrLength (opcodeOf i)) s.codeLen ∧
      (if t.pc = s.codeLen then t.status = .halted ∧ t.success = true else t.status = .running)

/-- R20, R55, R49; the parameters R29 and R32 (92 D17, D13, held in State by log entry 1), success R25 (92 D16), the
whole stack on a fault R68 and R138 (92 D6): the spec marks D6, D13, D16 and D17 as its own decisions. There is no
flag to leave unchanged (R28). -/
def Obligations.FrameOfEveryInstruction : Prop :=
  (∀ (i : Instr) (s t : State), s.Dispatching → exec i s = .next t →
    t.cfg = s.cfg ∧ t.codeLen = s.codeLen ∧ t.code = s.code ∧ (∀ a, t.readCode a = s.readCode a) ∧
    ((∀ c, t.status ≠ .faulted c) → arityOf i ≤ s.stack.length ∧
      t.stack.drop (pushesOf i) = s.stack.drop (arityOf i) ∧
      t.stack.length + arityOf i = s.stack.length + pushesOf i) ∧
    (∀ c, t.status = .faulted c → t.stack = s.stack) ∧ (t.status = .running → t.success = s.success)) ∧
  (∀ s t : State, step s = .next t → t.cfg = s.cfg)

/-- R20, "No instruction of this hardware reads or writes a slot below the top without popping it first". With a
finite capacity the depth itself matters (R69), so the capacity is ∞ here. -/
def Obligations.WordsBelowTheOperandsCannotMatter : Prop :=
  ∀ (i : Instr) (s t : State) (below : List Word), s.Dispatching → s.cfg.stackCapacity = none →
    arityOf i ≤ s.stack.length → exec i s = .next t →
      exec i { s with stack := s.stack ++ below } = .next { t with stack := t.stack ++ below }

/-- R70 (the opcode number apart); that no step follows is R139. The spec marks this as its own decisions (92 D7,
D23). -/
def Obligations.StopHaltsTheRun : Prop :=
  ∀ s : State, s.Dispatching →
    exec .stop s = .next { s with pc := s.pc + 1, status := .halted, success := true } ∧
      ∀ t v, exec .stop s = .next t → step t ≠ .next v

/-- R71 (the opcode number apart). The spec marks this as its own decision (92 D10). -/
def Obligations.PopDiscardsTheTop : Prop :=
  ∀ (s : State) (a : Word) (below : List Word), s.Dispatching → s.stack = a :: below →
    exec .pop s = .next (s.completedAt (s.pc + 1) below)

/-- R72 for each of R73–R105 (the opcode numbers apart). The spec marks this as its own decision (92 D4). -/
def Obligations.EveryPushCompletes : Prop :=
  ∀ (s : State) (imm : Word), s.Dispatching → s.cfg.stackCapacity ≠ some s.stack.length →
    exec .push0 s = .next (s.completedAt (s.pc + 1) (0 :: s.stack)) ∧
    exec (.push1 imm) s = .next (s.completedAt (min (s.pc + 2) s.codeLen) (imm :: s.stack)) ∧
    exec (.push2 imm) s = .next (s.completedAt (min (s.pc + 3) s.codeLen) (imm :: s.stack)) ∧
    exec (.push3 imm) s = .next (s.completedAt (min (s.pc + 4) s.codeLen) (imm :: s.stack)) ∧
    exec (.push4 imm) s = .next (s.completedAt (min (s.pc + 5) s.codeLen) (imm :: s.stack)) ∧
    exec (.push5 imm) s = .next (s.completedAt (min (s.pc + 6) s.codeLen) (imm :: s.stack)) ∧
    exec (.push6 imm) s = .next (s.completedAt (min (s.pc + 7) s.codeLen) (imm :: s.stack)) ∧
    exec (.push7 imm) s = .next (s.completedAt (min (s.pc + 8) s.codeLen) (imm :: s.stack)) ∧
    exec (.push8 imm) s = .next (s.completedAt (min (s.pc + 9) s.codeLen) (imm :: s.stack)) ∧
    exec (.push9 imm) s = .next (s.completedAt (min (s.pc + 10) s.codeLen) (imm :: s.stack)) ∧
    exec (.push10 imm) s = .next (s.completedAt (min (s.pc + 11) s.codeLen) (imm :: s.stack)) ∧
    exec (.push11 imm) s = .next (s.completedAt (min (s.pc + 12) s.codeLen) (imm :: s.stack)) ∧
    exec (.push12 imm) s = .next (s.completedAt (min (s.pc + 13) s.codeLen) (imm :: s.stack)) ∧
    exec (.push13 imm) s = .next (s.completedAt (min (s.pc + 14) s.codeLen) (imm :: s.stack)) ∧
    exec (.push14 imm) s = .next (s.completedAt (min (s.pc + 15) s.codeLen) (imm :: s.stack)) ∧
    exec (.push15 imm) s = .next (s.completedAt (min (s.pc + 16) s.codeLen) (imm :: s.stack)) ∧
    exec (.push16 imm) s = .next (s.completedAt (min (s.pc + 17) s.codeLen) (imm :: s.stack)) ∧
    exec (.push17 imm) s = .next (s.completedAt (min (s.pc + 18) s.codeLen) (imm :: s.stack)) ∧
    exec (.push18 imm) s = .next (s.completedAt (min (s.pc + 19) s.codeLen) (imm :: s.stack)) ∧
    exec (.push19 imm) s = .next (s.completedAt (min (s.pc + 20) s.codeLen) (imm :: s.stack)) ∧
    exec (.push20 imm) s = .next (s.completedAt (min (s.pc + 21) s.codeLen) (imm :: s.stack)) ∧
    exec (.push21 imm) s = .next (s.completedAt (min (s.pc + 22) s.codeLen) (imm :: s.stack)) ∧
    exec (.push22 imm) s = .next (s.completedAt (min (s.pc + 23) s.codeLen) (imm :: s.stack)) ∧
    exec (.push23 imm) s = .next (s.completedAt (min (s.pc + 24) s.codeLen) (imm :: s.stack)) ∧
    exec (.push24 imm) s = .next (s.completedAt (min (s.pc + 25) s.codeLen) (imm :: s.stack)) ∧
    exec (.push25 imm) s = .next (s.completedAt (min (s.pc + 26) s.codeLen) (imm :: s.stack)) ∧
    exec (.push26 imm) s = .next (s.completedAt (min (s.pc + 27) s.codeLen) (imm :: s.stack)) ∧
    exec (.push27 imm) s = .next (s.completedAt (min (s.pc + 28) s.codeLen) (imm :: s.stack)) ∧
    exec (.push28 imm) s = .next (s.completedAt (min (s.pc + 29) s.codeLen) (imm :: s.stack)) ∧
    exec (.push29 imm) s = .next (s.completedAt (min (s.pc + 30) s.codeLen) (imm :: s.stack)) ∧
    exec (.push30 imm) s = .next (s.completedAt (min (s.pc + 31) s.codeLen) (imm :: s.stack)) ∧
    exec (.push31 imm) s = .next (s.completedAt (min (s.pc + 32) s.codeLen) (imm :: s.stack)) ∧
    exec (.push32 imm) s = .next (s.completedAt (min (s.pc + 33) s.codeLen) (imm :: s.stack))

/-- R69, C13. The spec marks this as its own decision (92 D5). -/
def Obligations.PushAtCapacityOverflows : Prop :=
  ∀ (i : Instr) (s : State), s.Dispatching → s.cfg.stackCapacity = some s.stack.length →
    (classOf i = .push →
      exec i s = .next { s with pc := s.pc + 1, status := .faulted .stackOverflow, success := false }) ∧
    (classOf i ≠ .push → ∃ t, exec i s = .next t ∧ t.status ≠ .faulted .stackOverflow)

/-- R72, through fetch, decode and exec. The opcode numbers rest on 93 G2 (log entry 9). The spec marks this as its
own decisions (92 D3, D4, D5). -/
def Obligations.StepPushesTheImmediateInTheCode : Prop :=
  ∀ s : State, s.Dispatching → opClass (s.immByte s.pc) = .push →
    step s =
      if s.cfg.stackCapacity = some s.stack.length then .next (s.faultedBy .stackOverflow)
      else .next (s.completedAt (min (s.pc + 1 + ((s.immByte s.pc).toNat - 0x5F)) s.codeLen)
        (immAt s s.pc ((s.immByte s.pc).toNat - 0x5F) :: s.stack))

/-- R66. Which bytes are unassigned rests on 93 G2 (log entry 9). The spec marks this as its own decision (92 D2). -/
def Obligations.UnassignedByteOnlyAdvancesOrFaults : Prop :=
  ∀ (i : Instr) (s : State), s.Dispatching → classOf i = .unassigned →
    (s.cfg.unknownOpcodePolicy = .nop → exec i s = .next (s.completedAt (s.pc + 1) s.stack)) ∧
    (s.cfg.unknownOpcodePolicy = .fault →
      exec i s = .next { s with pc := s.pc + 1, status := .faulted .invalidOpcode, success := false })

/-- R106, with the underflow of R68 and R138, the pc advance of R65 and the end of code of R67. The spec marks as its
own decisions that an underflow pops nothing (92 D6), the pc advance (92 D7) and the end-of-code halt (92 D15). -/
def Obligations.AluTemplateReplacesItsOperands : Prop :=
  ∀ (i : Instr) (op : AluOp) (s : State), s.Dispatching → classOf i = .alu op →
    (s.stack.length < aluArity op → exec i s = .next (s.faultedBy .stackUnderflow)) ∧
    (aluArity op ≤ s.stack.length → ∃ st,
      exec i s = .next (s.completedAt (s.pc + 1) st) ∧
      st[0]? = some (alu op (s.stack.getD 0 0) (s.stack.getD 1 0) (s.stack.getD 2 0)) ∧
      (∀ j, 1 ≤ j → st[j]? = s.stack[j + aluArity op - 1]?) ∧
      st.length + aluArity op = s.stack.length + 1)

/-- R108 (the opcode number apart). -/
def Obligations.AddWrapsModulo : Prop :=
  Pushes2 .add fun a b r => r.toNat = (a.toNat + b.toNat) % 2 ^ 256

/-- R109 (the opcode number apart). -/
def Obligations.MulWrapsModulo : Prop :=
  Pushes2 .mul fun a b r => r.toNat = (a.toNat * b.toNat) % 2 ^ 256

/-- R110 (the opcode number apart). -/
def Obligations.SubIsPrimaryMinusSecondary : Prop :=
  Pushes2 .sub fun a b r => (r.toNat : Int) = ((a.toNat : Int) - (b.toNat : Int)) % 2 ^ 256

/-- R111 (the opcode number apart). -/
def Obligations.DivIsTheFloorQuotient : Prop :=
  Pushes2 .div fun a b r =>
    (b = 0 → r = 0) ∧ (b ≠ 0 → b.toNat * r.toNat ≤ a.toNat ∧ a.toNat < b.toNat * (r.toNat + 1))

/-- R112 (the opcode number apart). -/
def Obligations.SdivTruncatesTowardZero : Prop :=
  Pushes2 .sdiv fun a b r =>
    (b = 0 → r = 0) ∧ (a = minSigned → b = allOnes → r = minSigned) ∧
    (b ≠ 0 → ¬ (a = minSigned ∧ b = allOnes) → r.toInt = a.toInt.tdiv b.toInt)

/-- R113 (the opcode number apart). -/
def Obligations.ModIsTheUnsignedRemainder : Prop :=
  Pushes2 .mod fun a b r =>
    (b = 0 → r = 0) ∧ (b ≠ 0 → r.toNat < b.toNat ∧ ∃ q, a.toNat = b.toNat * q + r.toNat)

/-- R114 (the opcode number apart). -/
def Obligations.SmodTakesTheDividendsSign : Prop :=
  Pushes2 .smod fun a b r =>
    (b = 0 → r = 0) ∧ (b ≠ 0 → r.toInt = a.toInt.tmod b.toInt)

/-- R115 (the opcode number apart). -/
def Obligations.AddmodUsesTheExactSum : Prop :=
  Pushes3 .addmod fun a b c r =>
    (c = 0 → r = 0) ∧ (c ≠ 0 → r.toNat = (a.toNat + b.toNat) % c.toNat)

/-- R116 (the opcode number apart). -/
def Obligations.MulmodUsesTheExactProduct : Prop :=
  Pushes3 .mulmod fun a b c r =>
    (c = 0 → r = 0) ∧ (c ≠ 0 → r.toNat = (a.toNat * b.toNat) % c.toNat ∧
      r.toNat = ((a.toNat % c.toNat) * (b.toNat % c.toNat)) % c.toNat)

/-- R117 (the opcode number apart). The spec's own decision (92 D9, for 0 ^ 0 = 1). -/
def Obligations.ExpIsTheExactPowerModulo : Prop :=
  Pushes2 .exp fun a b r => r.toNat = a.toNat ^ b.toNat % 2 ^ 256

/-- R118 (the opcode number apart). The spec's own decision (92 D8, for the operand order). -/
def Obligations.SignextendReplicatesTheSignBit : Prop :=
  Pushes2 .signextend fun a b r =>
    BitsAre r fun j => if 32 ≤ a.toNat then b.getLsbD j else b.getLsbD (min j (8 * a.toNat + 7))

/-- R119–R121 (the opcode numbers apart). -/
def Obligations.UnsignedComparisonsAnswerOneOrZero : Prop :=
  Pushes2 .lt (fun a b r => r = if a.toNat < b.toNat then 1 else 0) ∧
  Pushes2 .gt (fun a b r => r = if b.toNat < a.toNat then 1 else 0)

/-- R119, R122, R123 (the opcode numbers apart). The method of R119 is marked derived in the spec. -/
def Obligations.SignedComparisonsAnswerOneOrZero : Prop :=
  Pushes2 .slt (fun a b r => r =
    if (if a.getLsbD 255 = b.getLsbD 255 then a.toNat < b.toNat else a.getLsbD 255 = true) then 1 else 0) ∧
  Pushes2 .sgt (fun a b r => r =
    if (if a.getLsbD 255 = b.getLsbD 255 then b.toNat < a.toNat else b.getLsbD 255 = true) then 1 else 0)

/-- R119, R124, R125 (the opcode numbers apart). The spec's own decision (92 D11, for ISZERO). -/
def Obligations.EqualityAndZeroTests : Prop :=
  Pushes2 .eq (fun a b r => (BitsAre a b.getLsbD → r = 1) ∧ (¬ BitsAre a b.getLsbD → r = 0)) ∧
  Pushes1 .iszero (fun a r => (BitsAre a (fun _ => false) → r = 1) ∧ (¬ BitsAre a (fun _ => false) → r = 0))

/-- R126–R130 (the opcode numbers apart). The spec's own decision (92 D11, for NOT). -/
def Obligations.LogicalOperationsActBitByBit : Prop :=
  Pushes2 .and (fun a b r => BitsAre r fun j => a.getLsbD j && b.getLsbD j) ∧
  Pushes2 .or (fun a b r => BitsAre r fun j => a.getLsbD j || b.getLsbD j) ∧
  Pushes2 .xor (fun a b r => BitsAre r fun j => a.getLsbD j ^^ b.getLsbD j) ∧
  Pushes1 .not (fun a r => BitsAre r fun j => !a.getLsbD j)

/-- R131 (the opcode number apart). -/
def Obligations.ShlMovesBitsUp : Prop :=
  Pushes2 .shl fun a b r =>
    BitsAre r fun j => decide (a.toNat ≤ j) && b.getLsbD (j - a.toNat)

/-- R132 (the opcode number apart). -/
def Obligations.ShrMovesBitsDown : Prop :=
  Pushes2 .shr fun a b r =>
    BitsAre r fun j => decide (j + a.toNat < 256) && b.getLsbD (j + a.toNat)

/-- R133 (the opcode number apart). -/
def Obligations.SarFillsWithTheSignBit : Prop :=
  Pushes2 .sar fun a b r =>
    BitsAre r (fun j => b.getLsbD (min (j + a.toNat) 255)) ∧
    (a.toNat ≤ 255 → r.toInt = b.toInt / 2 ^ a.toNat)

/-- R107, T8. -/
def Obligations.DivisionByZeroIsZero : Prop :=
  (∀ i ∈ [Instr.div, .sdiv, .mod, .smod], ∀ (s : State) (a : Word) (below : List Word), s.Dispatching →
    s.stack = a :: 0 :: below → exec i s = .next (s.completedAt (s.pc + 1) (0 :: below))) ∧
  (∀ i ∈ [Instr.addmod, .mulmod], ∀ (s : State) (a b : Word) (below : List Word), s.Dispatching →
    s.stack = a :: b :: 0 :: below → exec i s = .next (s.completedAt (s.pc + 1) (0 :: below)))

/-- R141, with the results of §4.4 it points to: R107 for a divisor or modulus 0, R131–R133 for an amount above 255,
R112 for MIN ÷ −1. Both ways to reach the end of code are said, by a step that completes there (R67) and by a step
that begins there (R64): the spec's own decision (92 D15; log entry 9). -/
def Obligations.ArithmeticEdgeCasesAreNotFaults : Prop :=
  (∀ (i : Instr) (op : AluOp) (s : State), s.Dispatching → classOf i = .alu op → aluArity op ≤ s.stack.length →
    ∃ t, exec i s = .next t ∧ (∀ c, t.status ≠ .faulted c) ∧
      t.stack[0]? = some (alu op (s.stack.getD 0 0) (s.stack.getD 1 0) (s.stack.getD 2 0))) ∧
  (∀ a c : Word, ∀ op ∈ [AluOp.div, .sdiv, .mod, .smod], alu op a 0 c = 0) ∧
  (∀ a b : Word, ∀ op ∈ [AluOp.addmod, .mulmod], alu op a b 0 = 0) ∧
  (∀ a b c : Word, 255 < a.toNat → alu .shl a b c = 0 ∧ alu .shr a b c = 0 ∧
    alu .sar a b c = if b.getLsbD 255 then allOnes else 0) ∧
  (∀ c : Word, alu .sdiv minSigned allOnes c = minSigned) ∧
  (∀ s : State, s.Dispatching → opClass (s.immByte s.pc) = .push → s.cfg.stackCapacity ≠ some s.stack.length →
    ∃ t, step s = .next t ∧ ∀ c, t.status ≠ .faulted c) ∧
  (∀ s t : State, step s = .next t → (∀ c, t.status ≠ .faulted c) → t.codeLen ≤ t.pc →
    t.status = .halted ∧ t.success = true) ∧
  (∀ s : State, s.status = .running → s.codeLen ≤ s.pc →
    ∃ t, step s = .next t ∧ t.status = .halted ∧ t.success = true)

/-- T7, over the ALU functions ADD and SUB use. -/
def Obligations.AddThenSubRestores : Prop :=
  ∀ a b c : Word, alu .sub (alu .add a b c) b c = a

/-- T10. -/
def Obligations.SignextendIsIdempotent : Prop :=
  ∀ p x c : Word, alu .signextend p (alu .signextend p x c) c = alu .signextend p x c

/-- T11, also for amounts above 255. -/
def Obligations.SarAgreesWithShrOnNonNegative : Prop :=
  ∀ a x c : Word, x.getLsbD 255 = false → alu .sar a x c = alu .shr a x c
end

