-- ==== Sys2Proof/Laws/State.lean ====
section
/-! SUPPORT. One lemma per field per update of State, so that no later proof unfolds a record update. -/

namespace Sys2Proof.Machine

variable (s : State)

@[simp] theorem State.advance_cfg : (s.advance).cfg = s.cfg := (rfl)
@[simp] theorem State.advance_codeLen : (s.advance).codeLen = s.codeLen := (rfl)
@[simp] theorem State.advance_code : (s.advance).code = s.code := (rfl)
@[simp] theorem State.advance_pc : (s.advance).pc = s.pc + 1 := (rfl)
@[simp] theorem State.advance_stack : (s.advance).stack = s.stack := (rfl)
@[simp] theorem State.advance_status : (s.advance).status = s.status := (rfl)
@[simp] theorem State.advance_success : (s.advance).success = s.success := (rfl)

@[simp] theorem State.skipImmediate_cfg (k : Nat) : (s.skipImmediate k).cfg = s.cfg := (rfl)
@[simp] theorem State.skipImmediate_codeLen (k : Nat) : (s.skipImmediate k).codeLen = s.codeLen := (rfl)
@[simp] theorem State.skipImmediate_code (k : Nat) : (s.skipImmediate k).code = s.code := (rfl)
@[simp] theorem State.skipImmediate_pc (k : Nat) : (s.skipImmediate k).pc = min (s.pc + k) s.codeLen := (rfl)
@[simp] theorem State.skipImmediate_stack (k : Nat) : (s.skipImmediate k).stack = s.stack := (rfl)
@[simp] theorem State.skipImmediate_status (k : Nat) : (s.skipImmediate k).status = s.status := (rfl)
@[simp] theorem State.skipImmediate_success (k : Nat) : (s.skipImmediate k).success = s.success := (rfl)

@[simp] theorem State.push_cfg (w : Word) : (s.push w).cfg = s.cfg := (rfl)
@[simp] theorem State.push_codeLen (w : Word) : (s.push w).codeLen = s.codeLen := (rfl)
@[simp] theorem State.push_code (w : Word) : (s.push w).code = s.code := (rfl)
@[simp] theorem State.push_pc (w : Word) : (s.push w).pc = s.pc := (rfl)
@[simp] theorem State.push_stack (w : Word) : (s.push w).stack = w :: s.stack := (rfl)
@[simp] theorem State.push_status (w : Word) : (s.push w).status = s.status := (rfl)
@[simp] theorem State.push_success (w : Word) : (s.push w).success = s.success := (rfl)

@[simp] theorem State.halt_cfg : (s.halt).cfg = s.cfg := (rfl)
@[simp] theorem State.halt_codeLen : (s.halt).codeLen = s.codeLen := (rfl)
@[simp] theorem State.halt_code : (s.halt).code = s.code := (rfl)
@[simp] theorem State.halt_pc : (s.halt).pc = s.pc := (rfl)
@[simp] theorem State.halt_stack : (s.halt).stack = s.stack := (rfl)
@[simp] theorem State.halt_status : (s.halt).status = .halted := (rfl)
@[simp] theorem State.halt_success : (s.halt).success = true := (rfl)

@[simp] theorem State.raiseFault_cfg (c : FaultCause) : (s.raiseFault c).cfg = s.cfg := (rfl)
@[simp] theorem State.raiseFault_codeLen (c : FaultCause) : (s.raiseFault c).codeLen = s.codeLen := (rfl)
@[simp] theorem State.raiseFault_code (c : FaultCause) : (s.raiseFault c).code = s.code := (rfl)
@[simp] theorem State.raiseFault_pc (c : FaultCause) : (s.raiseFault c).pc = s.pc := (rfl)
@[simp] theorem State.raiseFault_stack (c : FaultCause) : (s.raiseFault c).stack = s.stack := (rfl)
@[simp] theorem State.raiseFault_status (c : FaultCause) : (s.raiseFault c).status = .faulted c := (rfl)
@[simp] theorem State.raiseFault_success (c : FaultCause) : (s.raiseFault c).success = false := (rfl)

@[simp] theorem State.start_cfg (bs : List Byte) : (s.start bs).cfg = s.cfg := (rfl)
@[simp] theorem State.start_codeLen (bs : List Byte) : (s.start bs).codeLen = bs.length := (rfl)
@[simp] theorem State.start_code (bs : List Byte) : (s.start bs).code = Memory.pokeBytes [] 0 bs := (rfl)
@[simp] theorem State.start_pc (bs : List Byte) : (s.start bs).pc = 0 := (rfl)
@[simp] theorem State.start_stack (bs : List Byte) : (s.start bs).stack = [] := (rfl)
@[simp] theorem State.start_status (bs : List Byte) : (s.start bs).status = .running := (rfl)
@[simp] theorem State.start_success (bs : List Byte) : (s.start bs).success = false := (rfl)

@[simp] theorem State.placeAtPc_cfg (bs : List Byte) : (s.placeAtPc bs).cfg = s.cfg := (rfl)
@[simp] theorem State.placeAtPc_codeLen (bs : List Byte) : (s.placeAtPc bs).codeLen = max s.codeLen (s.pc + bs.length) := (rfl)
@[simp] theorem State.placeAtPc_code (bs : List Byte) : (s.placeAtPc bs).code = Memory.pokeBytes s.code s.pc bs := (rfl)
@[simp] theorem State.placeAtPc_pc (bs : List Byte) : (s.placeAtPc bs).pc = s.pc := (rfl)
@[simp] theorem State.placeAtPc_stack (bs : List Byte) : (s.placeAtPc bs).stack = s.stack := (rfl)
@[simp] theorem State.placeAtPc_status (bs : List Byte) : (s.placeAtPc bs).status = .running := (rfl)
@[simp] theorem State.placeAtPc_success (bs : List Byte) : (s.placeAtPc bs).success = s.success := (rfl)

@[simp] theorem State.faultedBy_cfg (c : FaultCause) : (s.faultedBy c).cfg = s.cfg := (rfl)
@[simp] theorem State.faultedBy_codeLen (c : FaultCause) : (s.faultedBy c).codeLen = s.codeLen := (rfl)
@[simp] theorem State.faultedBy_code (c : FaultCause) : (s.faultedBy c).code = s.code := (rfl)
@[simp] theorem State.faultedBy_pc (c : FaultCause) : (s.faultedBy c).pc = s.pc + 1 := (rfl)
@[simp] theorem State.faultedBy_stack (c : FaultCause) : (s.faultedBy c).stack = s.stack := (rfl)
@[simp] theorem State.faultedBy_status (c : FaultCause) : (s.faultedBy c).status = .faulted c := (rfl)
@[simp] theorem State.faultedBy_success (c : FaultCause) : (s.faultedBy c).success = false := (rfl)

@[simp] theorem State.finish_cfg : s.finish.cfg = s.cfg := by
  unfold State.finish; split <;> rfl

@[simp] theorem State.finish_codeLen : s.finish.codeLen = s.codeLen := by
  unfold State.finish; split <;> rfl

@[simp] theorem State.finish_code : s.finish.code = s.code := by
  unfold State.finish; split <;> rfl

@[simp] theorem State.finish_pc : s.finish.pc = s.pc := by
  unfold State.finish; split <;> rfl

@[simp] theorem State.finish_stack : s.finish.stack = s.stack := by
  unfold State.finish; split <;> rfl

theorem State.finish_status : s.finish.status = if s.codeLen ≤ s.pc then .halted else s.status := by
  unfold State.finish; split <;> rfl

theorem State.finish_success : s.finish.success = if s.codeLen ≤ s.pc then true else s.success := by
  unfold State.finish; split <;> rfl

@[simp] theorem State.completedAt_cfg (pc : Nat) (st : List Word) :
    (s.completedAt pc st).cfg = s.cfg := by
  unfold State.completedAt; split <;> rfl

@[simp] theorem State.completedAt_codeLen (pc : Nat) (st : List Word) :
    (s.completedAt pc st).codeLen = s.codeLen := by
  unfold State.completedAt; split <;> rfl

@[simp] theorem State.completedAt_code (pc : Nat) (st : List Word) :
    (s.completedAt pc st).code = s.code := by
  unfold State.completedAt; split <;> rfl

@[simp] theorem State.completedAt_pc (pc : Nat) (st : List Word) :
    (s.completedAt pc st).pc = pc := by
  unfold State.completedAt; split <;> rfl

@[simp] theorem State.completedAt_stack (pc : Nat) (st : List Word) :
    (s.completedAt pc st).stack = st := by
  unfold State.completedAt; split <;> rfl

theorem State.completedAt_status (pc : Nat) (st : List Word) :
    (s.completedAt pc st).status = if s.codeLen ≤ pc then .halted else s.status := by
  unfold State.completedAt; split <;> rfl

theorem State.completedAt_success (pc : Nat) (st : List Word) :
    (s.completedAt pc st).success = if s.codeLen ≤ pc then true else s.success := by
  unfold State.completedAt; split <;> rfl

@[simp] theorem State.depth_eq : s.depth = s.stack.length := (rfl)

/-- `finish` after a change of pc and stack is the completed state of the claims. -/
theorem State.finish_eq_completedAt (pc : Nat) (st : List Word) :
    ({ s with pc := pc, stack := st } : State).finish = s.completedAt pc st := (rfl)

/-- Fault entry after the pc advance is the faulted state of the claims (60_exceptions.md R138). -/
theorem State.advance_raiseFault (c : FaultCause) : s.advance.raiseFault c = s.faultedBy c := (rfl)

end Sys2Proof.Machine
end

