-- ==== Sys2Proof/Laws/Memory.lean ====
section
/-! SUPPORT. The code ROM: a read after a write, and that every memory operation keeps the canonical form. -/

namespace Sys2Proof.Machine

theorem Memory.wfFrom_mono {lo lo' : Nat} {m : List Host.Cell} (h : Memory.wfFrom lo m = true) (hle : lo' ≤ lo) :
    Memory.wfFrom lo' m = true := by
  cases m with
  | nil => rfl
  | cons c m =>
    simp only [Memory.wfFrom, Bool.and_eq_true, decide_eq_true_eq] at h ⊢
    exact ⟨⟨le_trans hle h.1.1, h.1.2⟩, h.2⟩

/-- Below the first possible address nothing is listed. -/
theorem Memory.peek_of_lt {lo x : Nat} {m : List Host.Cell} (h : Memory.wfFrom lo m = true) (hx : x < lo) :
    Memory.peek m x = Memory.unlisted := by
  induction m generalizing lo with
  | nil => rfl
  | cons c m ih =>
    simp only [Memory.wfFrom, Bool.and_eq_true, decide_eq_true_eq] at h
    have hne : c.1 ≠ x := by omega
    simp only [Memory.peek, if_neg hne]
    exact ih h.2 (by omega)

/-- `poke` keeps the canonical form. -/
theorem Memory.poke_wfFrom {lo x : Nat} {m : List Host.Cell} (v : Byte) (h : Memory.wfFrom lo m = true)
    (hx : lo ≤ x) : Memory.wfFrom lo (Memory.poke m x v) = true := by
  induction m generalizing lo with
  | nil =>
    simp only [Memory.poke]
    split
    · rfl
    · simp [Memory.wfFrom, *]
  | cons c m ih =>
    obtain ⟨a, b⟩ := c
    have hm := h
    simp only [Memory.wfFrom, Bool.and_eq_true, decide_eq_true_eq] at h
    simp only [Memory.poke]
    split
    · rename_i hlt
      split
      · exact hm
      · simp only [Memory.wfFrom, Bool.and_eq_true, decide_eq_true_eq]
        exact ⟨⟨hx, ‹_›⟩, ⟨by omega, h.1.2⟩, h.2⟩
    · split
      · rename_i heq
        subst heq
        split
        · exact Memory.wfFrom_mono h.2 (by omega)
        · simp only [Memory.wfFrom, Bool.and_eq_true, decide_eq_true_eq]
          exact ⟨⟨hx, ‹_›⟩, h.2⟩
      · simp only [Memory.wfFrom, Bool.and_eq_true, decide_eq_true_eq]
        exact ⟨h.1, ih h.2 (by omega)⟩

/-- `poke` keeps the canonical form of a whole memory. -/
theorem Memory.poke_wf {m : List Host.Cell} (x : Nat) (v : Byte) (h : Memory.wf m = true) :
    Memory.wf (Memory.poke m x v) = true :=
  Memory.poke_wfFrom v h (Nat.zero_le x)

/-- Writing several bytes keeps the canonical form. -/
theorem Memory.pokeBytes_wf {m : List Host.Cell} (x : Nat) (bs : List Byte) (h : Memory.wf m = true) :
    Memory.wf (Memory.pokeBytes m x bs) = true := by
  induction bs generalizing m x with
  | nil => exact h
  | cons b bs ih => exact ih (x + 1) (Memory.poke_wf x b h)

/-- The reset state's memory is canonical. -/
theorem Memory.reset_wf : Memory.wf State.reset.code = true := rfl

/-- A read after a write: the byte written at its own address, every other byte as before. -/
theorem Memory.peek_poke {lo : Nat} {m : List Host.Cell} (h : Memory.wfFrom lo m = true) (x : Nat) (v : Byte)
    (y : Nat) : Memory.peek (Memory.poke m x v) y = if y = x then v else Memory.peek m y := by
  induction m generalizing lo with
  | nil =>
    by_cases hv : v = Memory.unlisted
    · simp [Memory.poke, Memory.peek, hv]
    · by_cases hy : y = x
      · simp [Memory.poke, Memory.peek, hv, hy]
      · simp [Memory.poke, Memory.peek, hv, hy, Ne.symm hy]
  | cons c m ih =>
    obtain ⟨a, b⟩ := c
    simp only [Memory.wfFrom, Bool.and_eq_true, decide_eq_true_eq] at h
    have hlow : ∀ z < a + 1, Memory.peek m z = Memory.unlisted := fun z hz => Memory.peek_of_lt h.2 hz
    simp only [Memory.poke]
    split
    · rename_i hlt
      split
      · rename_i hv
        by_cases hy : y = x
        · subst hy
          simp only [Memory.peek, if_neg (show a ≠ y by omega), if_true, hv]
          exact hlow y (by omega)
        · simp [hy]
      · simp only [Memory.peek, eq_comm]
    · split
      · rename_i hlt heq
        subst heq
        split
        · rename_i hv
          by_cases hy : y = x
          · subst hy; simp only [if_true, hv]; exact hlow y (by omega)
          · simp only [Memory.peek, if_neg hy, if_neg (Ne.symm hy)]
        · by_cases hy : y = x
          · simp [Memory.peek, hy]
          · simp [Memory.peek, hy, Ne.symm hy]
      · rename_i hlt hne
        by_cases hya : a = y
        · subst hya; simp [Memory.peek, Ne.symm hne]
        · simp only [Memory.peek, if_neg hya]; exact ih h.2

/-- Every listed address after a write is the address written or was listed before. -/
theorem Memory.mem_poke {m : List Host.Cell} {x : Nat} {v : Byte} {c : Host.Cell} (h : c ∈ Memory.poke m x v) :
    c.1 = x ∨ c ∈ m := by
  induction m with
  | nil =>
    simp only [Memory.poke] at h
    split at h <;> simp_all
  | cons d m ih =>
    obtain ⟨a, b⟩ := d
    simp only [Memory.poke] at h
    split at h
    · split at h
      · exact .inr h
      · rcases List.mem_cons.1 h with rfl | h
        · exact .inl rfl
        · exact .inr h
    · split at h
      · split at h
        · exact .inr (List.mem_cons_of_mem _ h)
        · rcases List.mem_cons.1 h with rfl | h
          · exact .inl rfl
          · exact .inr (List.mem_cons_of_mem _ h)
      · rcases List.mem_cons.1 h with rfl | h
        · exact .inr List.mem_cons_self
        · exact (ih h).imp_right (List.mem_cons_of_mem _)

/-- Every listed address after a load lies in the bytes loaded or was listed before. -/
theorem Memory.mem_pokeBytes {m : List Host.Cell} {x : Nat} {bs : List Byte} {c : Host.Cell}
    (h : c ∈ Memory.pokeBytes m x bs) : (x ≤ c.1 ∧ c.1 < x + bs.length) ∨ c ∈ m := by
  induction bs generalizing m x with
  | nil => exact .inr h
  | cons b bs ih =>
    rcases ih h with h | h
    · exact .inl ⟨by omega, by simp only [List.length_cons]; omega⟩
    · rcases Memory.mem_poke h with h | h
      · exact .inl ⟨by omega, by simp only [List.length_cons]; omega⟩
      · exact .inr h

/-- A read after a load: the bytes loaded, and every other byte as before. -/
theorem Memory.peek_pokeBytes {m : List Host.Cell} (h : Memory.wf m = true) (x : Nat) (bs : List Byte) (y : Nat) :
    Memory.peek (Memory.pokeBytes m x bs) y =
      if x ≤ y ∧ y < x + bs.length then bs.getD (y - x) 0 else Memory.peek m y := by
  induction bs generalizing m x with
  | nil =>
    rw [if_neg (by simp only [List.length_nil]; omega)]
    rfl
  | cons b bs ih =>
    rw [Memory.pokeBytes, ih (Memory.poke_wf x b h), Memory.peek_poke h]
    simp only [List.length_cons]
    by_cases hy : y = x
    · subst hy
      rw [if_neg (by omega), if_pos rfl, if_pos (by omega), Nat.sub_self]
      rfl
    · rw [if_neg hy]
      by_cases hin : x + 1 ≤ y ∧ y < x + 1 + bs.length
      · rw [if_pos hin, if_pos (by omega), show y - x = (y - (x + 1)) + 1 by omega]
        rfl
      · rw [if_neg hin, if_neg (by omega)]

/-- R13: a code byte exists exactly below CODE_LEN. -/
theorem State.readCode_isSome (s : State) (a : Nat) : (s.readCode a).isSome = decide (a < s.codeLen) := by
  unfold State.readCode; split <;> simp_all

theorem State.readCode_of_lt {s : State} {a : Nat} (h : a < s.codeLen) : s.readCode a = some (s.immByte a) := by
  simp [State.immByte, State.readCode, h]

theorem State.readCode_of_ge {s : State} {a : Nat} (h : s.codeLen ≤ a) : s.readCode a = none := by
  simp [State.readCode, Nat.not_lt.2 h]

/-- R13 `ImmByte`: 0x00 past the end of code. -/
theorem State.immByte_of_ge {s : State} {a : Nat} (h : s.codeLen ≤ a) : s.immByte a = 0 := by
  simp [State.immByte, State.readCode_of_ge h]

/-- 70_reset_and_hazards.md R148: the code of a started machine is the bytes supplied. -/
theorem State.readCode_start (s : State) (bs : List Byte) (a : Nat) : (s.start bs).readCode a = bs[a]? := by
  unfold State.readCode
  simp only [State.start_codeLen, State.start_code]
  by_cases h : a < bs.length
  · rw [if_pos h, Memory.peek_pokeBytes rfl, if_pos ⟨Nat.zero_le a, by omega⟩]
    simp [List.getD_eq_getElem?_getD, h]
  · rw [if_neg h]
    simp [Nat.not_lt.1 h]

/-- What `codeFrom` gives: the bytes of the code from `addr` on, cut at the end of code. -/
theorem State.codeFrom_eq (s : State) (n addr : Nat) :
    s.codeFrom n addr = (List.range (min n (s.codeLen - addr))).map fun j => s.immByte (addr + j) := by
  induction n generalizing addr with
  | zero => simp [State.codeFrom]
  | succ n ih =>
    by_cases h : addr < s.codeLen
    · rw [State.codeFrom, State.readCode_of_lt h]
      simp only [ih]
      rw [show min (n + 1) (s.codeLen - addr) = min n (s.codeLen - (addr + 1)) + 1 by omega,
        List.range_succ_eq_map]
      simp [Function.comp_def, Nat.add_assoc, Nat.add_comm 1]
    · rw [State.codeFrom, State.readCode_of_ge (by omega)]
      simp [show s.codeLen - addr = 0 by omega]

end Sys2Proof.Machine
end

