-- ==== Sys2Proof/Laws/Decode.lean ====
section
/-! SUPPORT. The tables of 30_encoding.md: the decoder's map and the encoder's are one map, and what an instruction's
class, arity and immediate are. -/

namespace Sys2Proof

/-- A fact about every byte is a fact about 256 numbers. -/
theorem byte_cases {P : Byte → Prop} (h : ∀ n < 256, P (BitVec.ofNat 8 n)) (b : Byte) : P b := by
  have := h b.toNat b.isLt
  rwa [BitVec.ofNat_toNat, BitVec.setWidth_eq] at this

/-- The encoder's byte of every instruction selects that instruction again, with its own immediate. -/
theorem instrAt_opcodeOf (i : Instr) : instrAt (opcodeOf i) (immediateOf i).2 = i := by
  cases i <;> first | rfl | simp [opcodeOf, immediateOf, instrAt, instrRow]

/-- R53: the length told from the opcode byte is the number of immediate bytes of the instruction. -/
theorem immLength_opcodeOf (i : Instr) : immLength (opcodeOf i) = (immediateOf i).1 := by
  cases i <;> rfl

/-- An instruction without immediate bytes carries no immediate. -/
theorem immediateOf_zero (i : Instr) (h : (immediateOf i).1 = 0) : (immediateOf i).2 = 0 := by
  cases i <;> first | rfl | cases h

/-- R51: an immediate has at most 32 bytes. -/
theorem immLength_le (b : Byte) : immLength b ≤ 32 := by
  unfold immLength; split <;> omega

/-- R53: only PUSHk has immediate bytes, `k = opcode − 0x5F`. -/
theorem immLength_of_push {b : Byte} (h : opClass b = .push) : immLength b = b.toNat - 0x5F := by
  revert h
  exact byte_cases (P := fun b => opClass b = .push → immLength b = b.toNat - 0x5F) (by decide +kernel) b

theorem bytesBE_length (k v : Nat) : (bytesBE k v).length = k := by
  induction k with
  | zero => rfl
  | succ k ih => simp [bytesBE, ih]

/-- R51, R59: an instruction is as long as its opcode byte alone tells. -/
theorem encode_length (i : Instr) : (encode i).length = instrLength (opcodeOf i) := by
  rw [encode, List.length_cons, bytesBE_length, instrLength, immLength_opcodeOf, Nat.add_comm]

/-- One more byte at the low end. -/
theorem concatBytes_append_single (bs : List Byte) (b : Byte) :
    concatBytes (bs ++ [b]) = concatBytes bs * 256 + b.toNat := by
  simp [concatBytes]

theorem concatBytes_lt (bs : List Byte) : concatBytes bs < 256 ^ bs.length := by
  induction bs using List.reverseRecOn with
  | nil => simp [concatBytes]
  | append_singleton bs b ih =>
    rw [concatBytes_append_single, List.length_append, List.length_singleton, pow_succ]
    have := b.isLt
    omega

/-- The bytes of a number, most significant first: one more byte at the low end. -/
theorem bytesBE_succ (k v : Nat) : bytesBE (k + 1) v = bytesBE k (v / 256) ++ [BitVec.ofNat 8 v] := by
  induction k with
  | zero => simp [bytesBE]
  | succ k ih =>
    rw [bytesBE, ih, bytesBE, List.cons_append, Nat.div_div_eq_div_mul, pow_succ']

/-- R39, R53: the bytes of a number concatenate to that number. -/
theorem concatBytes_bytesBE (k v : Nat) (h : v < 256 ^ k) : concatBytes (bytesBE k v) = v := by
  induction k generalizing v with
  | zero => simp [bytesBE, concatBytes]; omega
  | succ k ih =>
    rw [bytesBE_succ, concatBytes_append_single, ih (v / 256) (by rw [pow_succ] at h; omega)]
    simp only [BitVec.toNat_ofNat]
    omega

/-- R54: a byte list of at most 32 bytes fits a Word. -/
theorem concatBytes_lt_word {bs : List Byte} (h : bs.length ≤ 32) : concatBytes bs < 2 ^ 256 := by
  refine (concatBytes_lt bs).trans_le ?_
  rw [show (2 : Nat) ^ 256 = 256 ^ 32 by norm_num]
  exact Nat.pow_le_pow_right (by norm_num) h

/-- R56: the instruction an opcode byte selects has that opcode byte, and carries the immediate exactly when the byte
has one. -/
theorem opcodeOf_instrAt (b : Byte) (imm : Word) :
    opcodeOf (instrAt b imm) = b ∧
      immediateOf (instrAt b imm) = (immLength b, if immLength b = 0 then 0 else imm) := by
  revert imm
  refine byte_cases (P := fun b => ∀ imm, opcodeOf (instrAt b imm) = b ∧
    immediateOf (instrAt b imm) = (immLength b, if immLength b = 0 then 0 else imm)) ?_ b
  intro n hn imm
  interval_cases n <;> exact ⟨rfl, rfl⟩

/-- R39, R53: the number of a byte list spells that list again. -/
theorem bytesBE_concatBytes (bs : List Byte) : bytesBE bs.length (concatBytes bs) = bs := by
  induction bs using List.reverseRecOn with
  | nil => rfl
  | append_singleton bs b ih =>
    have hb := b.isLt
    rw [List.length_append, List.length_singleton, bytesBE_succ, concatBytes_append_single,
      show (concatBytes bs * 256 + b.toNat) / 256 = concatBytes bs by omega, ih]
    congr 1
    simp only [List.cons.injEq, and_true]
    apply BitVec.eq_of_toNat_eq
    simp only [BitVec.toNat_ofNat]
    omega

end Sys2Proof
end

