-- ==== Sys2Proof/Laws/Dispatch.lean ====
section
/-! SUPPORT. What each shared operation answers, and exec by class: every later proof about an instruction cites these
and unfolds neither the dispatch nor a meaning. -/

namespace Sys2Proof.Machine

/-- R63: exec is the case distinction by class that the dispatcher makes. -/
theorem exec_by_class (i : Instr) (s : State) :
    exec i s = match classOf i with
      | .stop => execStop s
      | .push => execPush (immediateOf i).1 (immediateOf i).2 s
      | .pop => execPop s
      | .alu op => execAlu op s
      | .unassigned => execUnassigned s := by
  cases i <;> first | rfl | (simp only [classOf, opcodeOf]; rfl)

/-- R70. -/
theorem execStop_eq (s : State) :
    execStop s = .next { s with pc := s.pc + 1, status := .halted, success := true } := (rfl)

/-- R69, R72: PUSHk overflows or completes. -/
theorem execPush_eq (k : Nat) (imm : Word) (s : State) :
    execPush k imm s =
      if s.cfg.stackCapacity = some s.stack.length then .next (s.faultedBy .stackOverflow)
      else .next (s.completedAt (min (s.pc + 1 + k) s.codeLen) (imm :: s.stack)) := by
  simp only [execPush, State.atCapacity, decide_eq_true_eq]
  rfl

/-- R68, R71: POP underflows or completes. -/
theorem execPop_eq (s : State) :
    execPop s =
      if s.stack.length < 1 then .next (s.faultedBy .stackUnderflow)
      else .next (s.completedAt (s.pc + 1) s.stack.tail) := by
  unfold execPop State.popN
  simp only [State.depth_eq, State.advance_stack]
  split <;> rename_i h
  · split at h
    · rw [if_pos ‹_›]; rfl
    · cases h
  · split at h
    · cases h
    · cases h
      rw [if_neg ‹_›, ← List.drop_one]
      rfl

/-- R66: an unassigned byte faults under FAULT and only advances under NOP. -/
theorem execUnassigned_eq (s : State) :
    execUnassigned s =
      if s.cfg.unknownOpcodePolicy = .fault then .next (s.faultedBy .invalidOpcode)
      else .next (s.completedAt (s.pc + 1) s.stack) := by
  unfold execUnassigned
  split <;> simp_all <;> rfl

/-- R106: an ALU instruction underflows or completes; the operands are the top Words of the stack. -/
theorem execAlu_eq (op : AluOp) (s : State) :
    execAlu op s =
      if s.stack.length < aluArity op then .next (s.faultedBy .stackUnderflow)
      else .next (s.completedAt (s.pc + 1)
        (alu op (operand (s.stack.take (aluArity op)) 0) (operand (s.stack.take (aluArity op)) 1)
          (operand (s.stack.take (aluArity op)) 2) :: s.stack.drop (aluArity op))) := by
  unfold execAlu State.popN
  simp only [State.depth_eq, State.advance_stack]
  split <;> rename_i h
  · split at h
    · rw [if_pos ‹_›]; rfl
    · cases h
  · split at h
    · cases h
    · cases h
      rw [if_neg ‹_›]
      rfl

/-- R34: an input past the arity is ignored, so the operands may be read off the whole stack. -/
theorem alu_take (op : AluOp) (st : List Word) :
    alu op (operand (st.take (aluArity op)) 0) (operand (st.take (aluArity op)) 1)
      (operand (st.take (aluArity op)) 2) = alu op (st.getD 0 0) (st.getD 1 0) (st.getD 2 0) := by
  cases op <;> rcases st with _ | ⟨a, _ | ⟨b, _ | ⟨c, st⟩⟩⟩ <;> rfl

/-- R54, R57: the decoder on a non-empty list of bytes. -/
theorem decode_cons (mode : TruncPushMode) (b : Byte) (rest : List Byte) :
    decode mode (b :: rest) =
      .ok (instrAt b (assembleImm mode (immLength b) rest), rest.drop (immLength b)) := (rfl)

/-- R65: where the dispatcher runs an instruction, the fetch gives the one its opcode byte selects. -/
theorem State.fetch_of_lt {s : State} (h : s.pc < s.codeLen) :
    s.fetch = .ok (instrAt (s.immByte s.pc)
      (assembleImm s.cfg.truncPushMode (immLength (s.immByte s.pc)) (s.codeFrom 32 (s.pc + 1)))) := by
  have hc : s.codeFrom maxInstrLength s.pc = s.immByte s.pc :: s.codeFrom 32 (s.pc + 1) := by
    rw [maxInstrLength, State.codeFrom, State.readCode_of_lt h]
  rw [State.fetch, hc, decode_cons]

/-- R64: at the end of code the fetch signals it. -/
theorem State.fetch_of_ge {s : State} (h : s.codeLen ≤ s.pc) : s.fetch = .error .endOfCode := by
  rw [State.fetch, maxInstrLength, State.codeFrom, State.readCode_of_ge h]
  rfl

/-- R139: no step outside Running. -/
theorem step_of_not_running {s : State} (h : s.status ≠ .running) : step s = .fault .runEnded := by
  unfold step runStep
  split <;> simp_all

/-- R64. -/
theorem step_of_end_of_code {s : State} (hr : s.status = .running) (h : s.codeLen ≤ s.pc) :
    step s = .next s.halt := by
  unfold step runStep
  rw [hr, State.fetch_of_ge h]

/-- R63, R65: otherwise the step runs the fetched instruction. -/
theorem step_of_lt {s : State} (hr : s.status = .running) (h : s.pc < s.codeLen) :
    step s = exec (instrAt (s.immByte s.pc)
      (assembleImm s.cfg.truncPushMode (immLength (s.immByte s.pc)) (s.codeFrom 32 (s.pc + 1)))) s := by
  unfold step runStep
  rw [hr, State.fetch_of_lt h]

/-- Say once what an instruction can do: STOP halts, one of three faults is taken, or it completes. -/
theorem exec_cases {i : Instr} {s t : State} (h : exec i s = .next t) :
    (classOf i = .stop ∧ t = { s with pc := s.pc + 1, status := .halted, success := true }) ∨
    (∃ c, raises i s c ∧ t = s.faultedBy c) ∨
    (classOf i = .push ∧ t = s.completedAt (min (s.pc + 1 + (immediateOf i).1) s.codeLen)
      ((immediateOf i).2 :: s.stack)) ∨
    (classOf i = .pop ∧ 1 ≤ s.stack.length ∧ t = s.completedAt (s.pc + 1) s.stack.tail) ∨
    (classOf i = .unassigned ∧ t = s.completedAt (s.pc + 1) s.stack) ∨
    (∃ op, classOf i = .alu op ∧ aluArity op ≤ s.stack.length ∧ t = s.completedAt (s.pc + 1)
      (alu op (s.stack.getD 0 0) (s.stack.getD 1 0) (s.stack.getD 2 0) :: s.stack.drop (aluArity op))) := by
  rw [exec_by_class] at h
  split at h <;> rename_i hc
  · exact .inl ⟨hc, by simpa [execStop_eq, eq_comm] using h⟩
  · rw [execPush_eq] at h
    split at h <;> cases h
    · exact .inr (.inl ⟨.stackOverflow, ⟨hc, ‹_›⟩, rfl⟩)
    · exact .inr (.inr (.inl ⟨hc, rfl⟩))
  · rw [execPop_eq] at h
    split at h <;> cases h
    · exact .inr (.inl ⟨.stackUnderflow, by simp only [raises, arityOf, hc, classArity]; exact ‹_›, rfl⟩)
    · exact .inr (.inr (.inr (.inl ⟨hc, by omega, rfl⟩)))
  · rename_i op
    rw [execAlu_eq, alu_take] at h
    split at h <;> cases h
    · exact .inr (.inl ⟨.stackUnderflow, by simp only [raises, arityOf, hc, classArity]; exact ‹_›, rfl⟩)
    · exact .inr (.inr (.inr (.inr (.inr ⟨op, hc, by omega, rfl⟩))))
  · rw [execUnassigned_eq] at h
    split at h <;> cases h
    · exact .inr (.inl ⟨.invalidOpcode, ⟨hc, ‹_›⟩, rfl⟩)
    · exact .inr (.inr (.inr (.inr (.inl ⟨hc, rfl⟩))))

/-- R63, R64: say once what a step can do. -/
theorem step_cases {s t : State} (h : step s = .next t) :
    s.status = .running ∧
      ((s.codeLen ≤ s.pc ∧ t = s.halt) ∨ (s.pc < s.codeLen ∧ ∃ i, exec i s = .next t)) := by
  by_cases hr : s.status = .running
  · refine ⟨hr, ?_⟩
    by_cases hl : s.pc < s.codeLen
    · rw [step_of_lt hr hl] at h
      exact .inr ⟨hl, _, h⟩
    · rw [step_of_end_of_code hr (by omega)] at h
      cases h
      exact .inl ⟨by omega, rfl⟩
  · rw [step_of_not_running hr] at h
    cases h

/-- R106 for arity 1: the relation of the instruction is that of its ALU function. -/
theorem pushes1_of_alu {i : Instr} {op : AluOp} (hc : classOf i = .alu op) (ha : aluArity op = 1)
    {R : Word → Word → Prop} (h : ∀ a, R a (alu op a 0 0)) : Pushes1 i R := by
  intro s a below _ hs
  refine ⟨_, ?_, h a⟩
  rw [exec_by_class, hc]
  simp only [execAlu_eq, hs, ha]
  rfl

/-- R106 for arity 2. -/
theorem pushes2_of_alu {i : Instr} {op : AluOp} (hc : classOf i = .alu op) (ha : aluArity op = 2)
    {R : Word → Word → Word → Prop} (h : ∀ a b, R a b (alu op a b 0)) : Pushes2 i R := by
  intro s a b below _ hs
  refine ⟨_, ?_, h a b⟩
  rw [exec_by_class, hc]
  simp only [execAlu_eq, hs, ha]
  rfl

/-- R106 for arity 3. -/
theorem pushes3_of_alu {i : Instr} {op : AluOp} (hc : classOf i = .alu op) (ha : aluArity op = 3)
    {R : Word → Word → Word → Word → Prop} (h : ∀ a b c, R a b c (alu op a b c)) : Pushes3 i R := by
  intro s a b c below _ hs
  refine ⟨_, ?_, h a b c⟩
  rw [exec_by_class, hc]
  simp only [execAlu_eq, hs, ha]
  rfl

/-- A run of `k + 1` steps that ends in a next state is one step and a run of `k`. -/
theorem run_succ_next {M : Host.Core} {k : Nat} {s t : M.State} (h : M.run (k + 1) s = .next t) :
    ∃ s', M.step s = .next s' ∧ M.run k s' = .next t := by
  simp only [Host.Core.run] at h
  split at h
  · exact ⟨_, ‹_›, h⟩
  · cases h
  · cases h

end Sys2Proof.Machine
end

