-- ==== Sys2Proof/Laws/Alu.lean ====
section
/-! SUPPORT. What `wrap` and the exact ALU computations give: the laws of 00_scope.md R10 that the results of
41_arithmetic.md and 43_bitwise_shift.md rest on. -/

namespace Sys2Proof.Machine

/-- R10: `u(wrap(n)) = n mod 2^256`. -/
theorem wrap_toNat (n : Nat) : (wrap n).toNat = n % 2 ^ 256 := by
  simp [wrap]

/-- R10: a number that fits is kept. -/
theorem wrap_toNat_of_lt {n : Nat} (h : n < 2 ^ 256) : (wrap n).toNat = n := by
  rw [wrap_toNat, Nat.mod_eq_of_lt h]

/-- R10: a number in the two's-complement range is kept as `s`. -/
theorem wrap_toInt_of_bounds {v : Int} (h1 : -2 ^ 255 ≤ v) (h2 : v < 2 ^ 255) : (wrap v).toInt = v := by
  rw [wrap, BitVec.toInt_ofInt]
  exact Int.bmod_eq_of_le (by norm_num at *; omega) (by norm_num at *; omega)

/-- R10: bit `j` of `wrap(n)` is bit `j` of `n`. -/
theorem wrap_getLsbD (n : Nat) {j : Nat} (hj : j < 256) : (wrap n).getLsbD j = n.testBit j := by
  rw [BitVec.getLsbD, wrap_toNat, Nat.testBit_mod_two_pow]
  simp [hj]

/-- R10: the range of `s`. -/
theorem sgn_bounds (a : Word) : -2 ^ 255 ≤ sgn a ∧ sgn a < 2 ^ 255 :=
  ⟨BitVec.le_toInt a, BitVec.toInt_lt⟩

/-- R10: `u(x) = 0` only for the Word 0. -/
theorem u_eq_zero {b : Word} : u b = 0 ↔ b = 0 := by
  refine ⟨fun h => BitVec.eq_of_toNat_eq h, ?_⟩
  rintro rfl
  rfl

/-- R109: the exact product, reduced; the step of square-and-multiply. -/
theorem aluMul_toNat (a b : Word) : (aluMul a b).toNat = a.toNat * b.toNat % 2 ^ 256 := by
  rw [aluMul, ← wrap_toNat]
  push_cast
  rfl

/-- R126: equal bits are equal Words. -/
theorem bitsAre_getLsbD (a b : Word) : BitsAre a b.getLsbD ↔ a = b := by
  refine ⟨fun h => BitVec.eq_of_getLsbD_eq h, ?_⟩
  rintro rfl j _
  rfl

end Sys2Proof.Machine
end

