-- ==== Sys2Proof/Machine/Assembly.lean ====
section
/-! DEFINITION. The program text of 30_encoding.md R61 and R62: one line is one instruction or one `.byte`, and a line
assembles to the bytes the encoder writes. It is how the spec spells code for the host, no part of the block's state;
no step reads it. -/

namespace Sys2Proof

/-- R61: a line of program text, after splitting at spaces. -/
inductive AsmLine where
  | op (mnemonic : String)                     -- `ADD`, `PUSH0`
  | pushBytes (k : Nat) (bytes : List Byte)    -- `PUSH2 0x01 0x02`
  | pushConst (k : Nat) (value : Nat)          -- `PUSH1 0x05`
  | byte (b : Byte)                            -- `.byte 0x1A`
  deriving DecidableEq, Repr

/-- R56: the names in rows `0_`, `1_` and `5_` of the map that are no PUSH. -/
def plainMnemonics : Nat → List String
  | 0 => ["STOP", "ADD", "MUL", "SUB", "DIV", "SDIV", "MOD", "SMOD", "ADDMOD", "MULMOD", "EXP", "SIGNEXTEND"]
  | 1 => ["LT", "GT", "SLT", "SGT", "EQ", "ISZERO", "AND", "OR", "XOR", "NOT", "", "SHL", "SHR", "SAR"]
  | 5 => ["POP"]
  | _ => []

/-- R56: the mnemonic of an opcode byte, none where the map has none. -/
def mnemonicAt (b : Byte) : Option String :=
  match opClass b with
  | .unassigned => none
  | .push => some ("PUSH" ++ toString (b.toNat - 0x5F))
  | .stop => (plainMnemonics (b.toNat / 16))[b.toNat % 16]?
  | .pop => (plainMnemonics (b.toNat / 16))[b.toNat % 16]?
  | .alu _ => (plainMnemonics (b.toNat / 16))[b.toNat % 16]?

/-- R53: the opcode byte of PUSHk. -/
def pushOpcode (k : Nat) : Byte :=
  BitVec.ofNat 8 (0x5F + k)

/-- R61: the bytes a line assembles to. A PUSHk with `1 ≤ k ≤ 32` takes either exactly `k` bytes in address order or
one constant of at most `k` bytes, padded with zeros on the most significant side. -/
def assembleLine : AsmLine → Option (List Byte)
  | .op m =>
    ((List.range 256).map (BitVec.ofNat 8)).find? (fun b => immLength b = 0 ∧ mnemonicAt b = some m)
      |>.map fun b => [b]
  | .pushBytes k bytes =>
    if 1 ≤ k ∧ k ≤ 32 ∧ bytes.length = k then some (pushOpcode k :: bytes) else none
  | .pushConst k value =>
    if 1 ≤ k ∧ k ≤ 32 ∧ value < 256 ^ k then some (pushOpcode k :: bytesBE k value) else none
  | .byte b => if opClass b = .unassigned then some [b] else none

/-- R61, R62: a program is its lines in address order, each exactly one instruction or one `.byte`. -/
def assemble : List AsmLine → Option (List Byte)
  | [] => some []
  | l :: ls =>
    match assembleLine l, assemble ls with
    | some bs, some rest => some (bs ++ rest)
    | _, _ => none

/-- R61: the line of an instruction, its immediate written as separate bytes. -/
def lineOf (i : Instr) : AsmLine :=
  match (immediateOf i).1, mnemonicAt (opcodeOf i) with
  | _, none => .byte (opcodeOf i)
  | 0, some m => .op m
  | k, some _ => .pushBytes k (bytesBE k (immediateOf i).2.toNat)

end Sys2Proof
end

