-- ==== Sys2Proof/Laws/Assembly.lean ====
section
/-! SUPPORT. The program text of R61 and the encoder agree. -/

namespace Sys2Proof

/-- What the map says of one opcode byte's name: unassigned and nameless, or a one-byte instruction found by its name,
or PUSHk. -/
def nameAgrees (b : Byte) : Bool :=
  match mnemonicAt b, immLength b with
  | none, k => decide (k = 0 ∧ opClass b = .unassigned)
  | some m, 0 => decide (assembleLine (.op m) = some [b])
  | some _, k + 1 => decide (k + 1 ≤ 32 ∧ pushOpcode (k + 1) = b)

theorem nameAgrees_all (b : Byte) : nameAgrees b = true :=
  byte_cases (P := fun b => nameAgrees b = true) (by decide +kernel) b

/-- R61, R62: the line of an instruction assembles to the bytes the encoder writes. -/
theorem assembleLine_lineOf (i : Instr) : assembleLine (lineOf i) = some (encode i) := by
  have h := nameAgrees_all (opcodeOf i)
  rw [nameAgrees, immLength_opcodeOf] at h
  have hl := bytesBE_length (immediateOf i).1 (immediateOf i).2.toNat
  rw [encode]
  cases hm : mnemonicAt (opcodeOf i) with
  | none =>
    simp only [hm, decide_eq_true_eq] at h
    simp only [lineOf, hm, assembleLine, h.2, if_true, h.1, bytesBE]
  | some m =>
    cases hn : (immediateOf i).1 with
    | zero =>
      simp only [hm, hn, decide_eq_true_eq] at h
      simp only [lineOf, hm, hn, bytesBE]
      exact h
    | succ k =>
      rw [hn] at hl
      simp only [hm, hn, decide_eq_true_eq] at h
      simp only [lineOf, hm, hn, assembleLine, h.1, h.2, hl, Nat.le_add_left, and_self, if_true]

end Sys2Proof
end

