-- ==== Sys2Proof/Laws/PerInstr.lean ====
section
/-! SUPPORT. Statements about every instruction as syntax, one lemma per constructor. -/

namespace Sys2Proof.Laws.EncodedLength

/-- 30_encoding.md R51, R59: an instruction is as long as its opcode byte alone tells. -/
def Statement (i : Instr) : Prop :=
  (encode i).length = instrLength (opcodeOf i)

theorem stop : Statement .stop := encode_length _
theorem add : Statement .add := encode_length _
theorem mul : Statement .mul := encode_length _
theorem sub : Statement .sub := encode_length _
theorem div : Statement .div := encode_length _
theorem sdiv : Statement .sdiv := encode_length _
theorem mod : Statement .mod := encode_length _
theorem smod : Statement .smod := encode_length _
theorem addmod : Statement .addmod := encode_length _
theorem mulmod : Statement .mulmod := encode_length _
theorem exp : Statement .exp := encode_length _
theorem signextend : Statement .signextend := encode_length _
theorem unassigned0C : Statement .unassigned0C := encode_length _
theorem unassigned0D : Statement .unassigned0D := encode_length _
theorem unassigned0E : Statement .unassigned0E := encode_length _
theorem unassigned0F : Statement .unassigned0F := encode_length _
theorem lt : Statement .lt := encode_length _
theorem gt : Statement .gt := encode_length _
theorem slt : Statement .slt := encode_length _
theorem sgt : Statement .sgt := encode_length _
theorem eq : Statement .eq := encode_length _
theorem iszero : Statement .iszero := encode_length _
theorem and : Statement .and := encode_length _
theorem or : Statement .or := encode_length _
theorem xor : Statement .xor := encode_length _
theorem not : Statement .not := encode_length _
theorem unassigned1A : Statement .unassigned1A := encode_length _
theorem shl : Statement .shl := encode_length _
theorem shr : Statement .shr := encode_length _
theorem sar : Statement .sar := encode_length _
theorem unassigned1E : Statement .unassigned1E := encode_length _
theorem unassigned1F : Statement .unassigned1F := encode_length _
theorem unassigned20 : Statement .unassigned20 := encode_length _
theorem unassigned21 : Statement .unassigned21 := encode_length _
theorem unassigned22 : Statement .unassigned22 := encode_length _
theorem unassigned23 : Statement .unassigned23 := encode_length _
theorem unassigned24 : Statement .unassigned24 := encode_length _
theorem unassigned25 : Statement .unassigned25 := encode_length _
theorem unassigned26 : Statement .unassigned26 := encode_length _
theorem unassigned27 : Statement .unassigned27 := encode_length _
theorem unassigned28 : Statement .unassigned28 := encode_length _
theorem unassigned29 : Statement .unassigned29 := encode_length _
theorem unassigned2A : Statement .unassigned2A := encode_length _
theorem unassigned2B : Statement .unassigned2B := encode_length _
theorem unassigned2C : Statement .unassigned2C := encode_length _
theorem unassigned2D : Statement .unassigned2D := encode_length _
theorem unassigned2E : Statement .unassigned2E := encode_length _
theorem unassigned2F : Statement .unassigned2F := encode_length _
theorem unassigned30 : Statement .unassigned30 := encode_length _
theorem unassigned31 : Statement .unassigned31 := encode_length _
theorem unassigned32 : Statement .unassigned32 := encode_length _
theorem unassigned33 : Statement .unassigned33 := encode_length _
theorem unassigned34 : Statement .unassigned34 := encode_length _
theorem unassigned35 : Statement .unassigned35 := encode_length _
theorem unassigned36 : Statement .unassigned36 := encode_length _
theorem unassigned37 : Statement .unassigned37 := encode_length _
theorem unassigned38 : Statement .unassigned38 := encode_length _
theorem unassigned39 : Statement .unassigned39 := encode_length _
theorem unassigned3A : Statement .unassigned3A := encode_length _
theorem unassigned3B : Statement .unassigned3B := encode_length _
theorem unassigned3C : Statement .unassigned3C := encode_length _
theorem unassigned3D : Statement .unassigned3D := encode_length _
theorem unassigned3E : Statement .unassigned3E := encode_length _
theorem unassigned3F : Statement .unassigned3F := encode_length _
theorem unassigned40 : Statement .unassigned40 := encode_length _
theorem unassigned41 : Statement .unassigned41 := encode_length _
theorem unassigned42 : Statement .unassigned42 := encode_length _
theorem unassigned43 : Statement .unassigned43 := encode_length _
theorem unassigned44 : Statement .unassigned44 := encode_length _
theorem unassigned45 : Statement .unassigned45 := encode_length _
theorem unassigned46 : Statement .unassigned46 := encode_length _
theorem unassigned47 : Statement .unassigned47 := encode_length _
theorem unassigned48 : Statement .unassigned48 := encode_length _
theorem unassigned49 : Statement .unassigned49 := encode_length _
theorem unassigned4A : Statement .unassigned4A := encode_length _
theorem unassigned4B : Statement .unassigned4B := encode_length _
theorem unassigned4C : Statement .unassigned4C := encode_length _
theorem unassigned4D : Statement .unassigned4D := encode_length _
theorem unassigned4E : Statement .unassigned4E := encode_length _
theorem unassigned4F : Statement .unassigned4F := encode_length _
theorem pop : Statement .pop := encode_length _
theorem unassigned51 : Statement .unassigned51 := encode_length _
theorem unassigned52 : Statement .unassigned52 := encode_length _
theorem unassigned53 : Statement .unassigned53 := encode_length _
theorem unassigned54 : Statement .unassigned54 := encode_length _
theorem unassigned55 : Statement .unassigned55 := encode_length _
theorem unassigned56 : Statement .unassigned56 := encode_length _
theorem unassigned57 : Statement .unassigned57 := encode_length _
theorem unassigned58 : Statement .unassigned58 := encode_length _
theorem unassigned59 : Statement .unassigned59 := encode_length _
theorem unassigned5A : Statement .unassigned5A := encode_length _
theorem unassigned5B : Statement .unassigned5B := encode_length _
theorem unassigned5C : Statement .unassigned5C := encode_length _
theorem unassigned5D : Statement .unassigned5D := encode_length _
theorem unassigned5E : Statement .unassigned5E := encode_length _
theorem push0 : Statement .push0 := encode_length _
theorem push1 (imm : Word) : Statement (.push1 imm) := encode_length _
theorem push2 (imm : Word) : Statement (.push2 imm) := encode_length _
theorem push3 (imm : Word) : Statement (.push3 imm) := encode_length _
theorem push4 (imm : Word) : Statement (.push4 imm) := encode_length _
theorem push5 (imm : Word) : Statement (.push5 imm) := encode_length _
theorem push6 (imm : Word) : Statement (.push6 imm) := encode_length _
theorem push7 (imm : Word) : Statement (.push7 imm) := encode_length _
theorem push8 (imm : Word) : Statement (.push8 imm) := encode_length _
theorem push9 (imm : Word) : Statement (.push9 imm) := encode_length _
theorem push10 (imm : Word) : Statement (.push10 imm) := encode_length _
theorem push11 (imm : Word) : Statement (.push11 imm) := encode_length _
theorem push12 (imm : Word) : Statement (.push12 imm) := encode_length _
theorem push13 (imm : Word) : Statement (.push13 imm) := encode_length _
theorem push14 (imm : Word) : Statement (.push14 imm) := encode_length _
theorem push15 (imm : Word) : Statement (.push15 imm) := encode_length _
theorem push16 (imm : Word) : Statement (.push16 imm) := encode_length _
theorem push17 (imm : Word) : Statement (.push17 imm) := encode_length _
theorem push18 (imm : Word) : Statement (.push18 imm) := encode_length _
theorem push19 (imm : Word) : Statement (.push19 imm) := encode_length _
theorem push20 (imm : Word) : Statement (.push20 imm) := encode_length _
theorem push21 (imm : Word) : Statement (.push21 imm) := encode_length _
theorem push22 (imm : Word) : Statement (.push22 imm) := encode_length _
theorem push23 (imm : Word) : Statement (.push23 imm) := encode_length _
theorem push24 (imm : Word) : Statement (.push24 imm) := encode_length _
theorem push25 (imm : Word) : Statement (.push25 imm) := encode_length _
theorem push26 (imm : Word) : Statement (.push26 imm) := encode_length _
theorem push27 (imm : Word) : Statement (.push27 imm) := encode_length _
theorem push28 (imm : Word) : Statement (.push28 imm) := encode_length _
theorem push29 (imm : Word) : Statement (.push29 imm) := encode_length _
theorem push30 (imm : Word) : Statement (.push30 imm) := encode_length _
theorem push31 (imm : Word) : Statement (.push31 imm) := encode_length _
theorem push32 (imm : Word) : Statement (.push32 imm) := encode_length _
theorem unassigned80 : Statement .unassigned80 := encode_length _
theorem unassigned81 : Statement .unassigned81 := encode_length _
theorem unassigned82 : Statement .unassigned82 := encode_length _
theorem unassigned83 : Statement .unassigned83 := encode_length _
theorem unassigned84 : Statement .unassigned84 := encode_length _
theorem unassigned85 : Statement .unassigned85 := encode_length _
theorem unassigned86 : Statement .unassigned86 := encode_length _
theorem unassigned87 : Statement .unassigned87 := encode_length _
theorem unassigned88 : Statement .unassigned88 := encode_length _
theorem unassigned89 : Statement .unassigned89 := encode_length _
theorem unassigned8A : Statement .unassigned8A := encode_length _
theorem unassigned8B : Statement .unassigned8B := encode_length _
theorem unassigned8C : Statement .unassigned8C := encode_length _
theorem unassigned8D : Statement .unassigned8D := encode_length _
theorem unassigned8E : Statement .unassigned8E := encode_length _
theorem unassigned8F : Statement .unassigned8F := encode_length _
theorem unassigned90 : Statement .unassigned90 := encode_length _
theorem unassigned91 : Statement .unassigned91 := encode_length _
theorem unassigned92 : Statement .unassigned92 := encode_length _
theorem unassigned93 : Statement .unassigned93 := encode_length _
theorem unassigned94 : Statement .unassigned94 := encode_length _
theorem unassigned95 : Statement .unassigned95 := encode_length _
theorem unassigned96 : Statement .unassigned96 := encode_length _
theorem unassigned97 : Statement .unassigned97 := encode_length _
theorem unassigned98 : Statement .unassigned98 := encode_length _
theorem unassigned99 : Statement .unassigned99 := encode_length _
theorem unassigned9A : Statement .unassigned9A := encode_length _
theorem unassigned9B : Statement .unassigned9B := encode_length _
theorem unassigned9C : Statement .unassigned9C := encode_length _
theorem unassigned9D : Statement .unassigned9D := encode_length _
theorem unassigned9E : Statement .unassigned9E := encode_length _
theorem unassigned9F : Statement .unassigned9F := encode_length _
theorem unassignedA0 : Statement .unassignedA0 := encode_length _
theorem unassignedA1 : Statement .unassignedA1 := encode_length _
theorem unassignedA2 : Statement .unassignedA2 := encode_length _
theorem unassignedA3 : Statement .unassignedA3 := encode_length _
theorem unassignedA4 : Statement .unassignedA4 := encode_length _
theorem unassignedA5 : Statement .unassignedA5 := encode_length _
theorem unassignedA6 : Statement .unassignedA6 := encode_length _
theorem unassignedA7 : Statement .unassignedA7 := encode_length _
theorem unassignedA8 : Statement .unassignedA8 := encode_length _
theorem unassignedA9 : Statement .unassignedA9 := encode_length _
theorem unassignedAA : Statement .unassignedAA := encode_length _
theorem unassignedAB : Statement .unassignedAB := encode_length _
theorem unassignedAC : Statement .unassignedAC := encode_length _
theorem unassignedAD : Statement .unassignedAD := encode_length _
theorem unassignedAE : Statement .unassignedAE := encode_length _
theorem unassignedAF : Statement .unassignedAF := encode_length _
theorem unassignedB0 : Statement .unassignedB0 := encode_length _
theorem unassignedB1 : Statement .unassignedB1 := encode_length _
theorem unassignedB2 : Statement .unassignedB2 := encode_length _
theorem unassignedB3 : Statement .unassignedB3 := encode_length _
theorem unassignedB4 : Statement .unassignedB4 := encode_length _
theorem unassignedB5 : Statement .unassignedB5 := encode_length _
theorem unassignedB6 : Statement .unassignedB6 := encode_length _
theorem unassignedB7 : Statement .unassignedB7 := encode_length _
theorem unassignedB8 : Statement .unassignedB8 := encode_length _
theorem unassignedB9 : Statement .unassignedB9 := encode_length _
theorem unassignedBA : Statement .unassignedBA := encode_length _
theorem unassignedBB : Statement .unassignedBB := encode_length _
theorem unassignedBC : Statement .unassignedBC := encode_length _
theorem unassignedBD : Statement .unassignedBD := encode_length _
theorem unassignedBE : Statement .unassignedBE := encode_length _
theorem unassignedBF : Statement .unassignedBF := encode_length _
theorem unassignedC0 : Statement .unassignedC0 := encode_length _
theorem unassignedC1 : Statement .unassignedC1 := encode_length _
theorem unassignedC2 : Statement .unassignedC2 := encode_length _
theorem unassignedC3 : Statement .unassignedC3 := encode_length _
theorem unassignedC4 : Statement .unassignedC4 := encode_length _
theorem unassignedC5 : Statement .unassignedC5 := encode_length _
theorem unassignedC6 : Statement .unassignedC6 := encode_length _
theorem unassignedC7 : Statement .unassignedC7 := encode_length _
theorem unassignedC8 : Statement .unassignedC8 := encode_length _
theorem unassignedC9 : Statement .unassignedC9 := encode_length _
theorem unassignedCA : Statement .unassignedCA := encode_length _
theorem unassignedCB : Statement .unassignedCB := encode_length _
theorem unassignedCC : Statement .unassignedCC := encode_length _
theorem unassignedCD : Statement .unassignedCD := encode_length _
theorem unassignedCE : Statement .unassignedCE := encode_length _
theorem unassignedCF : Statement .unassignedCF := encode_length _
theorem unassignedD0 : Statement .unassignedD0 := encode_length _
theorem unassignedD1 : Statement .unassignedD1 := encode_length _
theorem unassignedD2 : Statement .unassignedD2 := encode_length _
theorem unassignedD3 : Statement .unassignedD3 := encode_length _
theorem unassignedD4 : Statement .unassignedD4 := encode_length _
theorem unassignedD5 : Statement .unassignedD5 := encode_length _
theorem unassignedD6 : Statement .unassignedD6 := encode_length _
theorem unassignedD7 : Statement .unassignedD7 := encode_length _
theorem unassignedD8 : Statement .unassignedD8 := encode_length _
theorem unassignedD9 : Statement .unassignedD9 := encode_length _
theorem unassignedDA : Statement .unassignedDA := encode_length _
theorem unassignedDB : Statement .unassignedDB := encode_length _
theorem unassignedDC : Statement .unassignedDC := encode_length _
theorem unassignedDD : Statement .unassignedDD := encode_length _
theorem unassignedDE : Statement .unassignedDE := encode_length _
theorem unassignedDF : Statement .unassignedDF := encode_length _
theorem unassignedE0 : Statement .unassignedE0 := encode_length _
theorem unassignedE1 : Statement .unassignedE1 := encode_length _
theorem unassignedE2 : Statement .unassignedE2 := encode_length _
theorem unassignedE3 : Statement .unassignedE3 := encode_length _
theorem unassignedE4 : Statement .unassignedE4 := encode_length _
theorem unassignedE5 : Statement .unassignedE5 := encode_length _
theorem unassignedE6 : Statement .unassignedE6 := encode_length _
theorem unassignedE7 : Statement .unassignedE7 := encode_length _
theorem unassignedE8 : Statement .unassignedE8 := encode_length _
theorem unassignedE9 : Statement .unassignedE9 := encode_length _
theorem unassignedEA : Statement .unassignedEA := encode_length _
theorem unassignedEB : Statement .unassignedEB := encode_length _
theorem unassignedEC : Statement .unassignedEC := encode_length _
theorem unassignedED : Statement .unassignedED := encode_length _
theorem unassignedEE : Statement .unassignedEE := encode_length _
theorem unassignedEF : Statement .unassignedEF := encode_length _
theorem unassignedF0 : Statement .unassignedF0 := encode_length _
theorem unassignedF1 : Statement .unassignedF1 := encode_length _
theorem unassignedF2 : Statement .unassignedF2 := encode_length _
theorem unassignedF3 : Statement .unassignedF3 := encode_length _
theorem unassignedF4 : Statement .unassignedF4 := encode_length _
theorem unassignedF5 : Statement .unassignedF5 := encode_length _
theorem unassignedF6 : Statement .unassignedF6 := encode_length _
theorem unassignedF7 : Statement .unassignedF7 := encode_length _
theorem unassignedF8 : Statement .unassignedF8 := encode_length _
theorem unassignedF9 : Statement .unassignedF9 := encode_length _
theorem unassignedFA : Statement .unassignedFA := encode_length _
theorem unassignedFB : Statement .unassignedFB := encode_length _
theorem unassignedFC : Statement .unassignedFC := encode_length _
theorem unassignedFD : Statement .unassignedFD := encode_length _
theorem unassignedFE : Statement .unassignedFE := encode_length _
theorem unassignedFF : Statement .unassignedFF := encode_length _

end Sys2Proof.Laws.EncodedLength
end

