-- ==== Sys2Proof/Tests/Slice0.lean ====
section
/-! SUPPORT. The model's own tests. Every expected value is from spec/ (each test names the row or rule), none is the
model's answer. The last part shows, for every statement of Obligations.lean that has hypotheses, a concrete state and
operands that meet them (`witness_<name of the statement>`). -/

namespace Sys2Proof.Tests

open Sys2Proof.Machine

-- One theorem after the other: each is a short kernel evaluation, and hundreds of waiting threads would only cost memory.
set_option Elab.async false

/-- 95_test_vectors.md `MAXPOS`. -/
def maxSigned : Word := BitVec.intMax 256

/-- A started machine with the code `bs`, before a step at address 0, with the stack `st` already there. -/
def placed (cfg : Config) (bs : List Byte) (st : List Word) : State :=
  { State.start { State.reset with cfg := cfg } bs with stack := st }

/-- The parameters of this hardware with one of them changed. -/
def faulting : Config := { Config.hardware with unknownOpcodePolicy := .fault }
def omitting : Config := { Config.hardware with truncPushMode := .omit }
def capped (n : Nat) : Config := { Config.hardware with stackCapacity := some n }

/-- What a test looks at after one step: pc, stack, status, success; none when there is no next state. -/
def seen (o : Host.Outcome State Fault Refusal) : Option (Nat × List Word × Status × Bool) :=
  match o with
  | .next t => some (t.pc, t.stack, t.status, t.success)
  | .fault _ => none
  | .refused _ => none

/-- One step of the opcode `op` on the stack `st`, with more code after it. -/
def one (op : Byte) (st : List Word) : Option (Nat × List Word × Status × Bool) :=
  seen (step (placed Config.hardware [op, 0x50] st))

/-! ## WellFormed: one ill-formed term for each check

Only PUSH1 … PUSH32 have a field. The check of PUSHk refuses `2^(8k)` (30_encoding.md R53); every Word is a number of
32 bytes, so PUSH32 has no ill-formed term and every one of its terms passes. -/

theorem test_wellFormed_push1 : wellFormed (.push1 (2 ^ 8)) = false ∧ wellFormed (.push1 (2 ^ 8 - 1)) = true := by decide +kernel
theorem test_wellFormed_push2 : wellFormed (.push2 (2 ^ 16)) = false ∧ wellFormed (.push2 (2 ^ 16 - 1)) = true := by decide +kernel
theorem test_wellFormed_push3 : wellFormed (.push3 (2 ^ 24)) = false ∧ wellFormed (.push3 (2 ^ 24 - 1)) = true := by decide +kernel
theorem test_wellFormed_push4 : wellFormed (.push4 (2 ^ 32)) = false ∧ wellFormed (.push4 (2 ^ 32 - 1)) = true := by decide +kernel
theorem test_wellFormed_push5 : wellFormed (.push5 (2 ^ 40)) = false ∧ wellFormed (.push5 (2 ^ 40 - 1)) = true := by decide +kernel
theorem test_wellFormed_push6 : wellFormed (.push6 (2 ^ 48)) = false ∧ wellFormed (.push6 (2 ^ 48 - 1)) = true := by decide +kernel
theorem test_wellFormed_push7 : wellFormed (.push7 (2 ^ 56)) = false ∧ wellFormed (.push7 (2 ^ 56 - 1)) = true := by decide +kernel
theorem test_wellFormed_push8 : wellFormed (.push8 (2 ^ 64)) = false ∧ wellFormed (.push8 (2 ^ 64 - 1)) = true := by decide +kernel
theorem test_wellFormed_push9 : wellFormed (.push9 (2 ^ 72)) = false ∧ wellFormed (.push9 (2 ^ 72 - 1)) = true := by decide +kernel
theorem test_wellFormed_push10 : wellFormed (.push10 (2 ^ 80)) = false ∧ wellFormed (.push10 (2 ^ 80 - 1)) = true := by decide +kernel
theorem test_wellFormed_push11 : wellFormed (.push11 (2 ^ 88)) = false ∧ wellFormed (.push11 (2 ^ 88 - 1)) = true := by decide +kernel
theorem test_wellFormed_push12 : wellFormed (.push12 (2 ^ 96)) = false ∧ wellFormed (.push12 (2 ^ 96 - 1)) = true := by decide +kernel
theorem test_wellFormed_push13 : wellFormed (.push13 (2 ^ 104)) = false ∧ wellFormed (.push13 (2 ^ 104 - 1)) = true := by decide +kernel
theorem test_wellFormed_push14 : wellFormed (.push14 (2 ^ 112)) = false ∧ wellFormed (.push14 (2 ^ 112 - 1)) = true := by decide +kernel
theorem test_wellFormed_push15 : wellFormed (.push15 (2 ^ 120)) = false ∧ wellFormed (.push15 (2 ^ 120 - 1)) = true := by decide +kernel
theorem test_wellFormed_push16 : wellFormed (.push16 (2 ^ 128)) = false ∧ wellFormed (.push16 (2 ^ 128 - 1)) = true := by decide +kernel
theorem test_wellFormed_push17 : wellFormed (.push17 (2 ^ 136)) = false ∧ wellFormed (.push17 (2 ^ 136 - 1)) = true := by decide +kernel
theorem test_wellFormed_push18 : wellFormed (.push18 (2 ^ 144)) = false ∧ wellFormed (.push18 (2 ^ 144 - 1)) = true := by decide +kernel
theorem test_wellFormed_push19 : wellFormed (.push19 (2 ^ 152)) = false ∧ wellFormed (.push19 (2 ^ 152 - 1)) = true := by decide +kernel
theorem test_wellFormed_push20 : wellFormed (.push20 (2 ^ 160)) = false ∧ wellFormed (.push20 (2 ^ 160 - 1)) = true := by decide +kernel
theorem test_wellFormed_push21 : wellFormed (.push21 (2 ^ 168)) = false ∧ wellFormed (.push21 (2 ^ 168 - 1)) = true := by decide +kernel
theorem test_wellFormed_push22 : wellFormed (.push22 (2 ^ 176)) = false ∧ wellFormed (.push22 (2 ^ 176 - 1)) = true := by decide +kernel
theorem test_wellFormed_push23 : wellFormed (.push23 (2 ^ 184)) = false ∧ wellFormed (.push23 (2 ^ 184 - 1)) = true := by decide +kernel
theorem test_wellFormed_push24 : wellFormed (.push24 (2 ^ 192)) = false ∧ wellFormed (.push24 (2 ^ 192 - 1)) = true := by decide +kernel
theorem test_wellFormed_push25 : wellFormed (.push25 (2 ^ 200)) = false ∧ wellFormed (.push25 (2 ^ 200 - 1)) = true := by decide +kernel
theorem test_wellFormed_push26 : wellFormed (.push26 (2 ^ 208)) = false ∧ wellFormed (.push26 (2 ^ 208 - 1)) = true := by decide +kernel
theorem test_wellFormed_push27 : wellFormed (.push27 (2 ^ 216)) = false ∧ wellFormed (.push27 (2 ^ 216 - 1)) = true := by decide +kernel
theorem test_wellFormed_push28 : wellFormed (.push28 (2 ^ 224)) = false ∧ wellFormed (.push28 (2 ^ 224 - 1)) = true := by decide +kernel
theorem test_wellFormed_push29 : wellFormed (.push29 (2 ^ 232)) = false ∧ wellFormed (.push29 (2 ^ 232 - 1)) = true := by decide +kernel
theorem test_wellFormed_push30 : wellFormed (.push30 (2 ^ 240)) = false ∧ wellFormed (.push30 (2 ^ 240 - 1)) = true := by decide +kernel
theorem test_wellFormed_push31 : wellFormed (.push31 (2 ^ 248)) = false ∧ wellFormed (.push31 (2 ^ 248 - 1)) = true := by decide +kernel
theorem test_wellFormed_push32 : wellFormed (.push32 allOnes) = true := by decide +kernel

/-! ## Decoding: words written out from the map of 30_encoding.md R56 -/

/-- R56: the rows `0_`, `1_` and `5_`: STOP, the 24 ALU instructions, POP and PUSH0. -/
def assignedWords : List (List Byte × Instr) :=
  List.flatten
  [[([0x00], .stop), ([0x01], .add), ([0x02], .mul), ([0x03], .sub)],
  [([0x04], .div), ([0x05], .sdiv), ([0x06], .mod), ([0x07], .smod)],
  [([0x08], .addmod), ([0x09], .mulmod), ([0x0A], .exp), ([0x0B], .signextend)],
  [([0x10], .lt), ([0x11], .gt), ([0x12], .slt), ([0x13], .sgt)],
  [([0x14], .eq), ([0x15], .iszero), ([0x16], .and), ([0x17], .or)],
  [([0x18], .xor), ([0x19], .not), ([0x1B], .shl), ([0x1C], .shr)],
  [([0x1D], .sar), ([0x50], .pop), ([0x5F], .push0)]]

/-- R53, R54: PUSH1 … PUSH32 with the immediate bytes 01, 02, …, the first one most significant. -/
def pushWords : List (List Byte × Instr) :=
  List.flatten
  [[([0x60, 0x01], .push1 0x01)],
  [([0x61, 0x01, 0x02], .push2 0x0102)],
  [([0x62, 0x01, 0x02, 0x03], .push3 0x010203)],
  [([0x63, 0x01, 0x02, 0x03, 0x04], .push4 0x01020304)],
  [([0x64, 0x01, 0x02, 0x03, 0x04, 0x05], .push5 0x0102030405)],
  [([0x65, 0x01, 0x02, 0x03, 0x04, 0x05, 0x06], .push6 0x010203040506)],
  [([0x66, 0x01, 0x02, 0x03, 0x04, 0x05, 0x06, 0x07], .push7 0x01020304050607)],
  [([0x67, 0x01, 0x02, 0x03, 0x04, 0x05, 0x06, 0x07, 0x08], .push8 0x0102030405060708)],
  [([0x68, 0x01, 0x02, 0x03, 0x04, 0x05, 0x06, 0x07, 0x08, 0x09], .push9 0x010203040506070809)],
  [([0x69, 0x01, 0x02, 0x03, 0x04, 0x05, 0x06, 0x07, 0x08, 0x09, 0x0A],
    .push10 0x0102030405060708090A)],
  [([0x6A, 0x01, 0x02, 0x03, 0x04, 0x05, 0x06, 0x07, 0x08, 0x09, 0x0A, 0x0B],
    .push11 0x0102030405060708090A0B)],
  [([0x6B, 0x01, 0x02, 0x03, 0x04, 0x05, 0x06, 0x07, 0x08, 0x09, 0x0A, 0x0B, 0x0C],
    .push12 0x0102030405060708090A0B0C)],
  [([0x6C, 0x01, 0x02, 0x03, 0x04, 0x05, 0x06, 0x07, 0x08, 0x09, 0x0A, 0x0B, 0x0C, 0x0D],
    .push13 0x0102030405060708090A0B0C0D)],
  [([0x6D, 0x01, 0x02, 0x03, 0x04, 0x05, 0x06, 0x07, 0x08, 0x09, 0x0A, 0x0B, 0x0C, 0x0D, 0x0E],
    .push14 0x0102030405060708090A0B0C0D0E)],
  [([0x6E, 0x01, 0x02, 0x03, 0x04, 0x05, 0x06, 0x07, 0x08, 0x09, 0x0A, 0x0B, 0x0C, 0x0D, 0x0E, 0x0F],
    .push15 0x0102030405060708090A0B0C0D0E0F)],
  [([0x6F, 0x01, 0x02, 0x03, 0x04, 0x05, 0x06, 0x07, 0x08, 0x09, 0x0A, 0x0B, 0x0C, 0x0D, 0x0E, 0x0F, 0x10],
    .push16 0x0102030405060708090A0B0C0D0E0F10)],
  [([0x70, 0x01, 0x02, 0x03, 0x04, 0x05, 0x06, 0x07, 0x08, 0x09, 0x0A, 0x0B, 0x0C, 0x0D, 0x0E, 0x0F, 0x10, 0x11],
    .push17 0x0102030405060708090A0B0C0D0E0F1011)],
  [([0x71, 0x01, 0x02, 0x03, 0x04, 0x05, 0x06, 0x07, 0x08,
      0x09, 0x0A, 0x0B, 0x0C, 0x0D, 0x0E, 0x0F, 0x10, 0x11, 0x12],
    .push18 0x0102030405060708090A0B0C0D0E0F101112)],
  [([0x72, 0x01, 0x02, 0x03, 0x04, 0x05, 0x06, 0x07, 0x08, 0x09,
      0x0A, 0x0B, 0x0C, 0x0D, 0x0E, 0x0F, 0x10, 0x11, 0x12, 0x13],
    .push19 0x0102030405060708090A0B0C0D0E0F10111213)],
  [([0x73, 0x01, 0x02, 0x03, 0x04, 0x05, 0x06, 0x07, 0x08, 0x09,
      0x0A, 0x0B, 0x0C, 0x0D, 0x0E, 0x0F, 0x10, 0x11, 0x12, 0x13, 0x14],
    .push20 0x0102030405060708090A0B0C0D0E0F1011121314)],
  [([0x74, 0x01, 0x02, 0x03, 0x04, 0x05, 0x06, 0x07, 0x08, 0x09, 0x0A,
      0x0B, 0x0C, 0x0D, 0x0E, 0x0F, 0x10, 0x11, 0x12, 0x13, 0x14, 0x15],
    .push21 0x0102030405060708090A0B0C0D0E0F101112131415)],
  [([0x75, 0x01, 0x02, 0x03, 0x04, 0x05, 0x06, 0x07, 0x08, 0x09, 0x0A,
      0x0B, 0x0C, 0x0D, 0x0E, 0x0F, 0x10, 0x11, 0x12, 0x13, 0x14, 0x15, 0x16],
    .push22 0x0102030405060708090A0B0C0D0E0F10111213141516)],
  [([0x76, 0x01, 0x02, 0x03, 0x04, 0x05, 0x06, 0x07, 0x08, 0x09, 0x0A, 0x0B,
      0x0C, 0x0D, 0x0E, 0x0F, 0x10, 0x11, 0x12, 0x13, 0x14, 0x15, 0x16, 0x17],
    .push23 0x0102030405060708090A0B0C0D0E0F1011121314151617)],
  [([0x77, 0x01, 0x02, 0x03, 0x04, 0x05, 0x06, 0x07, 0x08, 0x09, 0x0A, 0x0B,
      0x0C, 0x0D, 0x0E, 0x0F, 0x10, 0x11, 0x12, 0x13, 0x14, 0x15, 0x16, 0x17, 0x18],
    .push24 0x0102030405060708090A0B0C0D0E0F101112131415161718)],
  [([0x78, 0x01, 0x02, 0x03, 0x04, 0x05, 0x06, 0x07, 0x08, 0x09, 0x0A, 0x0B, 0x0C,
      0x0D, 0x0E, 0x0F, 0x10, 0x11, 0x12, 0x13, 0x14, 0x15, 0x16, 0x17, 0x18, 0x19],
    .push25 0x0102030405060708090A0B0C0D0E0F10111213141516171819)],
  [([0x79, 0x01, 0x02, 0x03, 0x04, 0x05, 0x06, 0x07, 0x08, 0x09, 0x0A, 0x0B, 0x0C,
      0x0D, 0x0E, 0x0F, 0x10, 0x11, 0x12, 0x13, 0x14, 0x15, 0x16, 0x17, 0x18, 0x19, 0x1A],
    .push26 0x0102030405060708090A0B0C0D0E0F101112131415161718191A)],
  [([0x7A, 0x01, 0x02, 0x03, 0x04, 0x05, 0x06, 0x07, 0x08, 0x09, 0x0A, 0x0B, 0x0C, 0x0D,
      0x0E, 0x0F, 0x10, 0x11, 0x12, 0x13, 0x14, 0x15, 0x16, 0x17, 0x18, 0x19, 0x1A, 0x1B],
    .push27 0x0102030405060708090A0B0C0D0E0F101112131415161718191A1B)],
  [([0x7B, 0x01, 0x02, 0x03, 0x04, 0x05, 0x06, 0x07, 0x08, 0x09, 0x0A, 0x0B, 0x0C, 0x0D,
      0x0E, 0x0F, 0x10, 0x11, 0x12, 0x13, 0x14, 0x15, 0x16, 0x17, 0x18, 0x19, 0x1A, 0x1B, 0x1C],
    .push28 0x0102030405060708090A0B0C0D0E0F101112131415161718191A1B1C)],
  [([0x7C, 0x01, 0x02, 0x03, 0x04, 0x05, 0x06, 0x07, 0x08, 0x09, 0x0A, 0x0B, 0x0C, 0x0D, 0x0E,
      0x0F, 0x10, 0x11, 0x12, 0x13, 0x14, 0x15, 0x16, 0x17, 0x18, 0x19, 0x1A, 0x1B, 0x1C, 0x1D],
    .push29 0x0102030405060708090A0B0C0D0E0F101112131415161718191A1B1C1D)],
  [([0x7D, 0x01, 0x02, 0x03, 0x04, 0x05, 0x06, 0x07, 0x08, 0x09, 0x0A, 0x0B, 0x0C, 0x0D, 0x0E,
      0x0F, 0x10, 0x11, 0x12, 0x13, 0x14, 0x15, 0x16, 0x17, 0x18, 0x19, 0x1A, 0x1B, 0x1C, 0x1D, 0x1E],
    .push30 0x0102030405060708090A0B0C0D0E0F101112131415161718191A1B1C1D1E)],
  [([0x7E, 0x01, 0x02, 0x03, 0x04, 0x05, 0x06, 0x07, 0x08, 0x09, 0x0A, 0x0B, 0x0C, 0x0D, 0x0E, 0x0F,
      0x10, 0x11, 0x12, 0x13, 0x14, 0x15, 0x16, 0x17, 0x18, 0x19, 0x1A, 0x1B, 0x1C, 0x1D, 0x1E, 0x1F],
    .push31 0x0102030405060708090A0B0C0D0E0F101112131415161718191A1B1C1D1E1F)],
  [([0x7F, 0x01, 0x02, 0x03, 0x04, 0x05, 0x06, 0x07, 0x08, 0x09, 0x0A, 0x0B, 0x0C, 0x0D, 0x0E, 0x0F,
      0x10, 0x11, 0x12, 0x13, 0x14, 0x15, 0x16, 0x17, 0x18, 0x19, 0x1A, 0x1B, 0x1C, 0x1D, 0x1E, 0x1F, 0x20],
    .push32 0x0102030405060708090A0B0C0D0E0F101112131415161718191A1B1C1D1E1F20)]]

/-- R58: the 197 unassigned bytes. -/
def unassignedWords : List (List Byte × Instr) :=
  List.flatten
  [[([0x0C], .unassigned0C), ([0x0D], .unassigned0D), ([0x0E], .unassigned0E), ([0x0F], .unassigned0F)],
  [([0x1A], .unassigned1A), ([0x1E], .unassigned1E), ([0x1F], .unassigned1F), ([0x20], .unassigned20)],
  [([0x21], .unassigned21), ([0x22], .unassigned22), ([0x23], .unassigned23), ([0x24], .unassigned24)],
  [([0x25], .unassigned25), ([0x26], .unassigned26), ([0x27], .unassigned27), ([0x28], .unassigned28)],
  [([0x29], .unassigned29), ([0x2A], .unassigned2A), ([0x2B], .unassigned2B), ([0x2C], .unassigned2C)],
  [([0x2D], .unassigned2D), ([0x2E], .unassigned2E), ([0x2F], .unassigned2F), ([0x30], .unassigned30)],
  [([0x31], .unassigned31), ([0x32], .unassigned32), ([0x33], .unassigned33), ([0x34], .unassigned34)],
  [([0x35], .unassigned35), ([0x36], .unassigned36), ([0x37], .unassigned37), ([0x38], .unassigned38)],
  [([0x39], .unassigned39), ([0x3A], .unassigned3A), ([0x3B], .unassigned3B), ([0x3C], .unassigned3C)],
  [([0x3D], .unassigned3D), ([0x3E], .unassigned3E), ([0x3F], .unassigned3F), ([0x40], .unassigned40)],
  [([0x41], .unassigned41), ([0x42], .unassigned42), ([0x43], .unassigned43), ([0x44], .unassigned44)],
  [([0x45], .unassigned45), ([0x46], .unassigned46), ([0x47], .unassigned47), ([0x48], .unassigned48)],
  [([0x49], .unassigned49), ([0x4A], .unassigned4A), ([0x4B], .unassigned4B), ([0x4C], .unassigned4C)],
  [([0x4D], .unassigned4D), ([0x4E], .unassigned4E), ([0x4F], .unassigned4F), ([0x51], .unassigned51)],
  [([0x52], .unassigned52), ([0x53], .unassigned53), ([0x54], .unassigned54), ([0x55], .unassigned55)],
  [([0x56], .unassigned56), ([0x57], .unassigned57), ([0x58], .unassigned58), ([0x59], .unassigned59)],
  [([0x5A], .unassigned5A), ([0x5B], .unassigned5B), ([0x5C], .unassigned5C), ([0x5D], .unassigned5D)],
  [([0x5E], .unassigned5E), ([0x80], .unassigned80), ([0x81], .unassigned81), ([0x82], .unassigned82)],
  [([0x83], .unassigned83), ([0x84], .unassigned84), ([0x85], .unassigned85), ([0x86], .unassigned86)],
  [([0x87], .unassigned87), ([0x88], .unassigned88), ([0x89], .unassigned89), ([0x8A], .unassigned8A)],
  [([0x8B], .unassigned8B), ([0x8C], .unassigned8C), ([0x8D], .unassigned8D), ([0x8E], .unassigned8E)],
  [([0x8F], .unassigned8F), ([0x90], .unassigned90), ([0x91], .unassigned91), ([0x92], .unassigned92)],
  [([0x93], .unassigned93), ([0x94], .unassigned94), ([0x95], .unassigned95), ([0x96], .unassigned96)],
  [([0x97], .unassigned97), ([0x98], .unassigned98), ([0x99], .unassigned99), ([0x9A], .unassigned9A)],
  [([0x9B], .unassigned9B), ([0x9C], .unassigned9C), ([0x9D], .unassigned9D), ([0x9E], .unassigned9E)],
  [([0x9F], .unassigned9F), ([0xA0], .unassignedA0), ([0xA1], .unassignedA1), ([0xA2], .unassignedA2)],
  [([0xA3], .unassignedA3), ([0xA4], .unassignedA4), ([0xA5], .unassignedA5), ([0xA6], .unassignedA6)],
  [([0xA7], .unassignedA7), ([0xA8], .unassignedA8), ([0xA9], .unassignedA9), ([0xAA], .unassignedAA)],
  [([0xAB], .unassignedAB), ([0xAC], .unassignedAC), ([0xAD], .unassignedAD), ([0xAE], .unassignedAE)],
  [([0xAF], .unassignedAF), ([0xB0], .unassignedB0), ([0xB1], .unassignedB1), ([0xB2], .unassignedB2)],
  [([0xB3], .unassignedB3), ([0xB4], .unassignedB4), ([0xB5], .unassignedB5), ([0xB6], .unassignedB6)],
  [([0xB7], .unassignedB7), ([0xB8], .unassignedB8), ([0xB9], .unassignedB9), ([0xBA], .unassignedBA)],
  [([0xBB], .unassignedBB), ([0xBC], .unassignedBC), ([0xBD], .unassignedBD), ([0xBE], .unassignedBE)],
  [([0xBF], .unassignedBF), ([0xC0], .unassignedC0), ([0xC1], .unassignedC1), ([0xC2], .unassignedC2)],
  [([0xC3], .unassignedC3), ([0xC4], .unassignedC4), ([0xC5], .unassignedC5), ([0xC6], .unassignedC6)],
  [([0xC7], .unassignedC7), ([0xC8], .unassignedC8), ([0xC9], .unassignedC9), ([0xCA], .unassignedCA)],
  [([0xCB], .unassignedCB), ([0xCC], .unassignedCC), ([0xCD], .unassignedCD), ([0xCE], .unassignedCE)],
  [([0xCF], .unassignedCF), ([0xD0], .unassignedD0), ([0xD1], .unassignedD1), ([0xD2], .unassignedD2)],
  [([0xD3], .unassignedD3), ([0xD4], .unassignedD4), ([0xD5], .unassignedD5), ([0xD6], .unassignedD6)],
  [([0xD7], .unassignedD7), ([0xD8], .unassignedD8), ([0xD9], .unassignedD9), ([0xDA], .unassignedDA)],
  [([0xDB], .unassignedDB), ([0xDC], .unassignedDC), ([0xDD], .unassignedDD), ([0xDE], .unassignedDE)],
  [([0xDF], .unassignedDF), ([0xE0], .unassignedE0), ([0xE1], .unassignedE1), ([0xE2], .unassignedE2)],
  [([0xE3], .unassignedE3), ([0xE4], .unassignedE4), ([0xE5], .unassignedE5), ([0xE6], .unassignedE6)],
  [([0xE7], .unassignedE7), ([0xE8], .unassignedE8), ([0xE9], .unassignedE9), ([0xEA], .unassignedEA)],
  [([0xEB], .unassignedEB), ([0xEC], .unassignedEC), ([0xED], .unassignedED), ([0xEE], .unassignedEE)],
  [([0xEF], .unassignedEF), ([0xF0], .unassignedF0), ([0xF1], .unassignedF1), ([0xF2], .unassignedF2)],
  [([0xF3], .unassignedF3), ([0xF4], .unassignedF4), ([0xF5], .unassignedF5), ([0xF6], .unassignedF6)],
  [([0xF7], .unassignedF7), ([0xF8], .unassignedF8), ([0xF9], .unassignedF9), ([0xFA], .unassignedFA)],
  [([0xFB], .unassignedFB), ([0xFC], .unassignedFC), ([0xFD], .unassignedFD), ([0xFE], .unassignedFE)],
  [([0xFF], .unassignedFF)]]

/-- Whether the decoder reads the bytes as the instruction, with nothing left over, in both truncation modes, and the
encoder writes it as those bytes. -/
def reads (c : List Byte × Instr) : Bool :=
  [TruncPushMode.zeroFill, .omit].all fun mode =>
    match decode mode c.1 with
    | .ok (i, rest) => decide (i = c.2 ∧ rest = [] ∧ encode i = c.1)
    | .error _ => false

theorem test_decode_assigned : assignedWords.all reads = true := by decide +kernel
theorem test_decode_push : pushWords.all reads = true := by decide +kernel
theorem test_decode_unassigned : unassignedWords.all reads = true := by decide +kernel
theorem test_decode_all_rows : (assignedWords ++ pushWords ++ unassignedWords).length = 256 := by decide +kernel

/-- R54, its two examples, and R59: the byte after a complete immediate is the next opcode. -/
theorem test_decode_truncated_zeroFill : decode .zeroFill [0x62, 0xAB] = .ok (.push3 0xAB0000, []) := by rfl
theorem test_decode_truncated_omit : decode .omit [0x62, 0xAB] = .ok (.push3 0xAB, []) := by rfl
theorem test_decode_leaves_the_rest : decode .omit [0x61, 0x01, 0x02, 0xFE] = .ok (.push2 0x0102, [0xFE]) := by rfl
theorem test_decode_nothing : decode .zeroFill [] = .error .endOfCode := by rfl

/-- The numbering of spec/opcode_table.json: the opcode is in bits 7..0, `imm[0]` in bits 15..8 (PUSH2 0x0102). -/
theorem test_decodeTableWord : decodeTableWord 24 0x020161 = some (.push2 0x0102) ∧
    decodeTableWord 8 0x7F = some (.push32 0) ∧ decodeTableWord 8 0x1A = some .unassigned1A := by decide +kernel

/-- `withFetchWord` places the instruction where the next step fetches it, from reset and from a halted machine. -/
theorem test_withFetchWord : seen (step (State.reset.withFetchWord 16 0x2A60)) = some (2, [0x2A], .running, false) ∧
    seen (step ({ State.reset with status := .halted, pc := 5, stack := [3, 4] }.withFetchWord 8 0x01)) =
      some (6, [7], .running, false) := by decide +kernel

/-! ## One step of each ALU instruction: 95_test_vectors.md §2, first popped operand first -/

theorem test_add_wraps_to_zero : one 0x01 [allOnes, 1, 9] = some (1, [0, 9], .running, false) := by decide +kernel
theorem test_add_reaches_min : one 0x01 [maxSigned, 1, 9] = some (1, [minSigned, 9], .running, false) := by decide +kernel
theorem test_mul_drops_the_high_half : one 0x02 [minSigned, 2, 9] = some (1, [0, 9], .running, false) := by decide +kernel
theorem test_mul_allones_squared : one 0x02 [allOnes, allOnes, 9] = some (1, [1, 9], .running, false) := by decide +kernel
theorem test_sub_is_primary_minus_secondary : one 0x03 [3, 5, 9] = some (1, [-2, 9], .running, false) := by decide +kernel
theorem test_sub_of_min : one 0x03 [minSigned, 1, 9] = some (1, [maxSigned, 9], .running, false) := by decide +kernel
theorem test_div_is_unsigned : one 0x04 [-7, 2, 9] = some (1, [0x7ffffffffffffffffffffffffffffffffffffffffffffffffffffffffffffffc, 9], .running, false) := by decide +kernel
theorem test_div_by_zero : one 0x04 [5, 0, 9] = some (1, [0, 9], .running, false) := by decide +kernel
theorem test_sdiv_truncates_toward_zero : one 0x05 [-7, 2, 9] = some (1, [-3, 9], .running, false) := by decide +kernel
theorem test_sdiv_min_by_minus_one : one 0x05 [minSigned, allOnes, 9] = some (1, [minSigned, 9], .running, false) := by decide +kernel
theorem test_mod_small_dividend : one 0x06 [3, 7, 9] = some (1, [3, 9], .running, false) := by decide +kernel
theorem test_mod_by_zero : one 0x06 [7, 0, 9] = some (1, [0, 9], .running, false) := by decide +kernel
theorem test_smod_negative_dividend : one 0x07 [-7, 2, 9] = some (1, [allOnes, 9], .running, false) := by decide +kernel
theorem test_smod_negative_divisor : one 0x07 [7, -2, 9] = some (1, [1, 9], .running, false) := by decide +kernel
theorem test_addmod_exact_sum : one 0x08 [allOnes, allOnes, 7, 9] = some (1, [2, 9], .running, false) := by decide +kernel
theorem test_addmod_by_zero : one 0x08 [5, 6, 0, 9] = some (1, [0, 9], .running, false) := by decide +kernel
theorem test_mulmod_exact_product : one 0x09 [allOnes, allOnes, 0xc, 9] = some (1, [9, 9], .running, false) := by decide +kernel
theorem test_mulmod_by_allones : one 0x09 [minSigned, minSigned, allOnes, 9] = some (1, [2 ^ 254, 9], .running, false) := by decide +kernel
theorem test_exp_zero_to_the_zero : one 0x0A [0, 0, 9] = some (1, [1, 9], .running, false) := by decide +kernel
theorem test_exp_long_exponent : one 0x0A [3, allOnes, 9] = some (1, [0xaaaaaaaaaaaaaaaaaaaaaaaaaaaaaaaaaaaaaaaaaaaaaaaaaaaaaaaaaaaaaaab, 9], .running, false) := by decide +kernel
theorem test_signextend_byte_1 : one 0x0B [1, 0x8000, 9] = some (1, [0xffffffffffffffffffffffffffffffffffffffffffffffffffffffffffff8000, 9], .running, false) := by decide +kernel
theorem test_signextend_position_32 : one 0x0B [0x20, 0xff, 9] = some (1, [0xff, 9], .running, false) := by decide +kernel
theorem test_lt_is_unsigned : one 0x10 [allOnes, 0, 9] = some (1, [0, 9], .running, false) := by decide +kernel
theorem test_lt_equal : one 0x10 [5, 5, 9] = some (1, [0, 9], .running, false) := by decide +kernel
theorem test_gt_is_unsigned : one 0x11 [minSigned, maxSigned, 9] = some (1, [1, 9], .running, false) := by decide +kernel
theorem test_gt_equal : one 0x11 [5, 5, 9] = some (1, [0, 9], .running, false) := by decide +kernel
theorem test_slt_negative_first : one 0x12 [allOnes, 1, 9] = some (1, [1, 9], .running, false) := by decide +kernel
theorem test_slt_both_negative : one 0x12 [-2, allOnes, 9] = some (1, [1, 9], .running, false) := by decide +kernel
theorem test_sgt_negative_second : one 0x13 [1, allOnes, 9] = some (1, [1, 9], .running, false) := by decide +kernel
theorem test_sgt_both_negative : one 0x13 [allOnes, -2, 9] = some (1, [1, 9], .running, false) := by decide +kernel
theorem test_eq_of_equals : one 0x14 [allOnes, allOnes, 9] = some (1, [1, 9], .running, false) := by decide +kernel
theorem test_eq_high_bit_only : one 0x14 [0, minSigned, 9] = some (1, [0, 9], .running, false) := by decide +kernel
theorem test_iszero_of_zero : one 0x15 [0, 9] = some (1, [1, 9], .running, false) := by decide +kernel
theorem test_iszero_of_min : one 0x15 [minSigned, 9] = some (1, [0, 9], .running, false) := by decide +kernel
theorem test_and_masks : one 0x16 [0xf0f0, 0xff00, 9] = some (1, [0xf000, 9], .running, false) := by decide +kernel
theorem test_and_allones : one 0x16 [allOnes, 0x1234, 9] = some (1, [0x1234, 9], .running, false) := by decide +kernel
theorem test_or_joins : one 0x17 [0xf0f0, 0xf0f, 9] = some (1, [0xffff, 9], .running, false) := by decide +kernel
theorem test_or_of_min : one 0x17 [minSigned, 1, 9] = some (1, [0x8000000000000000000000000000000000000000000000000000000000000001, 9], .running, false) := by decide +kernel
theorem test_xor_cancels : one 0x18 [allOnes, allOnes, 9] = some (1, [0, 9], .running, false) := by decide +kernel
theorem test_xor_differs : one 0x18 [0xff, 0xf, 9] = some (1, [0xf0, 9], .running, false) := by decide +kernel
theorem test_not_of_one : one 0x19 [1, 9] = some (1, [-2, 9], .running, false) := by decide +kernel
theorem test_not_of_min : one 0x19 [minSigned, 9] = some (1, [maxSigned, 9], .running, false) := by decide +kernel
theorem test_shl_amount_first : one 0x1B [4, allOnes, 9] = some (1, [-16, 9], .running, false) := by decide +kernel
theorem test_shl_whole_word_amount : one 0x1B [2 ^ 128, 1, 9] = some (1, [0, 9], .running, false) := by decide +kernel
theorem test_shr_by_255 : one 0x1C [0xff, minSigned, 9] = some (1, [1, 9], .running, false) := by decide +kernel
theorem test_shr_by_256 : one 0x1C [0x100, allOnes, 9] = some (1, [0, 9], .running, false) := by decide +kernel
theorem test_sar_rounds_down : one 0x1D [1, -7, 9] = some (1, [-4, 9], .running, false) := by decide +kernel
theorem test_sar_by_256 : one 0x1D [0x100, minSigned, 9] = some (1, [allOnes, 9], .running, false) := by decide +kernel

/-! ## STOP, POP, PUSH, unassigned bytes, faults and the end of code: 95_test_vectors.md §1 and §3 -/

/-- T5: STOP leaves the stack as pushed and ends the run before the byte after it. -/
theorem test_stop : seen (step (placed Config.hardware [0x00, 0x01] [2, 1])) =
    some (1, [2, 1], .halted, true) := by decide +kernel
/-- V1. -/
theorem test_empty_code : seen (step (placed Config.hardware [] [])) =
    some (0, [], .halted, true) := by decide +kernel
/-- V10, its last step. -/
theorem test_pop : seen (step (placed Config.hardware [0x50] [1])) =
    some (1, [], .halted, true) := by decide +kernel
/-- V11. -/
theorem test_pop_empty : seen (step (placed Config.hardware [0x50] [])) =
    some (1, [], .faulted .stackUnderflow, false) := by decide +kernel
/-- V3. -/
theorem test_push0 : seen (step (placed Config.hardware [0x5F] [])) =
    some (1, [0], .halted, true) := by decide +kernel
/-- V5. -/
theorem test_push1_truncated : seen (step (placed Config.hardware [0x60] [])) =
    some (1, [0], .halted, true) := by decide +kernel
/-- V6. -/
theorem test_push1_truncated_omit : seen (step (placed omitting [0x60] [])) =
    some (1, [0], .halted, true) := by decide +kernel
/-- T1: big-endian. -/
theorem test_push2 : seen (step (placed Config.hardware [0x61, 0x01, 0x02] [])) =
    some (3, [0x0102], .halted, true) := by decide +kernel
/-- P4, its last step. -/
theorem test_push3_truncated : seen (step (placed Config.hardware [0x62, 0xAB] [5])) =
    some (2, [0xAB0000, 5], .halted, true) := by decide +kernel
/-- P4o, its last step. -/
theorem test_push3_truncated_omit : seen (step (placed omitting [0x62, 0xAB] [5])) =
    some (2, [0xAB, 5], .halted, true) := by decide +kernel
/-- V22. -/
theorem test_push32_truncated : seen (step (placed Config.hardware [0x7F, 0x01] [])) =
    some (2, [0x0100000000000000000000000000000000000000000000000000000000000000], .halted, true) := by decide +kernel
/-- V15: FE after PUSH1 is data. -/
theorem test_push_data_not_decoded : seen (step (placed faulting [0x60, 0xFE] [])) =
    some (2, [0xFE], .halted, true) := by decide +kernel
/-- V19, its last step: pc stays at the opcode address + 1. -/
theorem test_push_overflow : seen (step (placed (capped 1) [0x60, 0x02] [1])) =
    some (1, [1], .faulted .stackOverflow, false) := by decide +kernel
/-- V20, its last step. -/
theorem test_push_below_capacity : seen (step (placed (capped 2) [0x60, 0x03] [3])) =
    some (2, [3, 3], .halted, true) := by decide +kernel
/-- V14, its first step. -/
theorem test_unassigned_nop : seen (step (placed Config.hardware [0xFE, 0x60, 0x01] [])) =
    some (1, [], .running, false) := by decide +kernel
/-- P3f, its last step. -/
theorem test_unassigned_fault : seen (step (placed faulting [0x1A, 0x5F] [1])) =
    some (1, [1], .faulted .invalidOpcode, false) := by decide +kernel
/-- T6, its last step: the lone operand is not popped. -/
theorem test_add_underflow : seen (step (placed Config.hardware [0x01] [1])) =
    some (1, [1], .faulted .stackUnderflow, false) := by decide +kernel
/-- V16. -/
theorem test_iszero_underflow : seen (step (placed Config.hardware [0x15] [])) =
    some (1, [], .faulted .stackUnderflow, false) := by decide +kernel
/-- V17, its last step. -/
theorem test_addmod_underflow : seen (step (placed Config.hardware [0x08] [2, 1])) =
    some (1, [2, 1], .faulted .stackUnderflow, false) := by decide +kernel
/-! ## Program text: 30_encoding.md R61 and the programs of 95_test_vectors.md -/

/-- T1 and P3. -/
theorem test_assemble_push2 : assemble [.pushBytes 2 [0x01, 0x02]] = some [0x61, 0x01, 0x02] := by decide +kernel
theorem test_assemble_program :
    assemble [.pushConst 1 1, .byte 0x1A, .op "PUSH0", .op "ISZERO", .op "ADD", .op "STOP", .pushConst 1 0xFF] =
      some [0x60, 0x01, 0x1A, 0x5F, 0x15, 0x01, 0x00, 0x60, 0xFF] := by decide +kernel
/-- A constant is padded on the most significant side; one that does not fit, a PUSH without its immediate, a name that
is none of R56 (R6) and a `.byte` of an assigned opcode are no lines. -/
theorem test_assemble_padding : assembleLine (.pushConst 3 0xAB) = some [0x62, 0x00, 0x00, 0xAB] := by decide +kernel
theorem test_assemble_refuses : assembleLine (.pushConst 1 0x100) = none ∧ assembleLine (.op "PUSH1") = none ∧
    assembleLine (.op "DUP1") = none ∧ assembleLine (.byte 0x01) = none := by decide +kernel

/-- R139: no step in Halted. -/
theorem test_no_step_after_the_end :
    seen (step { placed Config.hardware [0x5F] [] with status := .halted }) = none := by decide +kernel

/-- R134, R26, R33: the cause codes, and the outputs after a run and before it ends. -/
theorem test_fault_codes :
    [faultCode .stackUnderflow, faultCode .invalidOpcode, faultCode .stackOverflow] = [1, 2, 3] := by decide +kernel
theorem test_outputs : State.executionResult { State.reset with status := .halted, success := true, stack := [7] } =
    some ([7], true) ∧ State.executionResult State.reset = none ∧ State.reset.done = false := by decide +kernel

/-! ## Memory: the canonical form -/

theorem test_poke_sorted : Memory.pokeBytes [(7, 1)] 2 [5, 0, 6] = [(2, 5), (4, 6), (7, 1)] := by decide +kernel
theorem test_poke_unlisted_removes : Memory.poke [(2, 5), (4, 6)] 2 0 = [(4, 6)] := by decide +kernel
theorem test_wf_refuses : Memory.wf [(4, 6), (2, 5)] = false ∧ Memory.wf [(2, 5), (2, 6)] = false ∧
    Memory.wf [(2, 0)] = false ∧ Memory.wf [(2, 5), (4, 6)] = true := by decide +kernel

/-! ## Witnesses: every statement with hypotheses has states and operands that meet all of them -/

/-- A machine at the opcode byte `op`, more code after it. -/
def ready (op : Byte) (st : List Word) : State := placed Config.hardware [op, 0x50] st

theorem witness_DecodeOfEncodeGivesTheInstruction :
    wellFormed (.push2 0xFFFF) = true ∧
    wellFormed (.push32 allOnes) = true ∧
    wellFormed .add = true :=
  ⟨by decide +kernel, by decide +kernel, by decide +kernel⟩

theorem witness_EncodeOfDecodeGivesTheBytes :
    immLength 0x61 ≤ [(0x01 : Byte), 0x02].length ∧
    decode .omit [0x61, 0x01, 0x02] = .ok (.push2 0x0102, []) :=
  ⟨by decide +kernel, rfl⟩

theorem witness_UnassignedBytesAreThoseOfTheMap :
    opClass 0x5F = .push ∧
    opClass 0x7F = .push :=
  ⟨by decide +kernel, by decide +kernel⟩

theorem witness_ImmediateIsBigEndian :
    (List.replicate 32 (0xFF : Byte)).length ≤ 32 ∧
    ([] : List Byte).length ≤ 32 :=
  ⟨by decide +kernel, by decide +kernel⟩

theorem witness_FetchAssemblesTheImmediateFromTheCode :
    (placed omitting [0x62, 0xAB] []).Dispatching ∧
    0 < immLength ((placed omitting [0x62, 0xAB] []).immByte 0) ∧
    (placed Config.hardware [0x7F] []).Dispatching ∧
    0 < immLength ((placed Config.hardware [0x7F] []).immByte 0) :=
  ⟨⟨rfl, by decide +kernel⟩, by decide +kernel, ⟨rfl, by decide +kernel⟩, by decide +kernel⟩

theorem witness_StepRunsTheDecodedInstruction :
    (ready 0x01 [2, 3]).Dispatching ∧
    wellFormed .add = true ∧
    decode .zeroFill ((ready 0x01 [2, 3]).codeFrom maxInstrLength 0) = .ok (.add, [0x50]) :=
  ⟨⟨rfl, by decide +kernel⟩, by decide +kernel, rfl⟩

theorem witness_StepAtEndOfCodeHalts :
    { State.reset with stack := [7] }.status = .running ∧
    { State.reset with stack := [7] }.codeLen ≤ { State.reset with stack := [7] }.pc ∧
    State.Inv { State.reset with stack := [7] } :=
  ⟨rfl, by decide +kernel, ⟨by decide +kernel, by decide +kernel, by decide +kernel, by decide +kernel, .inr (by decide +kernel)⟩⟩

theorem witness_EveryRunningStepHasANextState :
    (ready 0xFE []).status = .running :=
  rfl

theorem witness_StepIsThePseudocode :
    (ready 0x01 [2]).status = .running :=
  rfl

theorem witness_StartSetsTheResetValues :
    { State.reset with pc := 3, stack := [7], status := .faulted .stackUnderflow }.cfg = State.reset.cfg :=
  rfl

theorem witness_StepKeepsTheInvariant :
    (ready 0x01 [2, 3]).Inv ∧
    step (ready 0x01 [2, 3]) = .next { ready 0x01 [5] with pc := 1 } ∧
    (placed Config.hardware [0x01] [2, 3]).Inv ∧
    step (placed Config.hardware [0x01] [2, 3]) = .next { placed Config.hardware [0x01] [5] with pc := 1, status := .halted, success := true } ∧
    (ready 0x01 [2]).Inv ∧
    step (ready 0x01 [2]) = .next { ready 0x01 [2] with pc := 1, status := .faulted .stackUnderflow, success := false } :=
  ⟨⟨by decide +kernel, by decide +kernel, by decide +kernel, by decide +kernel, .inl (by decide +kernel)⟩, by rfl, ⟨by decide +kernel, by decide +kernel, by decide +kernel, by decide +kernel, .inl (by decide +kernel)⟩, by rfl, ⟨by decide +kernel, by decide +kernel, by decide +kernel, by decide +kernel, .inl (by decide +kernel)⟩, by rfl⟩

theorem witness_EveryRunEnds :
    (ready 0x01 [2, 3]).Inv ∧
    (ready 0x01 [2, 3]).status = .running ∧
    step (ready 0x01 [2, 3]) = .next { ready 0x01 [5] with pc := 1 } ∧
    { ready 0x01 [5] with pc := 1 }.status = .running :=
  ⟨⟨by decide +kernel, by decide +kernel, by decide +kernel, by decide +kernel, .inl (by decide +kernel)⟩, rfl, by rfl, rfl⟩

theorem witness_PcNeverDecreasesAndStaysInTheCode :
    (ready 0x01 [2, 3]).pc ≤ (ready 0x01 [2, 3]).codeLen ∧
    step (ready 0x01 [2, 3]) = .next { ready 0x01 [5] with pc := 1 } :=
  ⟨by decide +kernel, by rfl⟩

theorem witness_PhysicalPcWidthSuffices :
    ∃ w, Config.codeLenMax + 1 ≤ 2 ^ w ∧ { State.reset with stack := [7] }.codeLen ≤ Config.codeLenMax ∧
      State.Inv { State.reset with stack := [7] } ∧
      step { State.reset with stack := [7] } =
        .next { State.reset with stack := [7], status := .halted, success := true } :=
  ⟨Config.codeLenMax, Nat.lt_two_pow_self, Nat.zero_le _, ⟨by decide +kernel, by decide +kernel, by decide +kernel, by decide +kernel, .inr (by decide +kernel)⟩, by rfl⟩

theorem witness_CodeIsNeverWritten :
    step (ready 0x01 [2, 3]) = .next { ready 0x01 [5] with pc := 1 } ∧
    step (placed Config.hardware [0x01] [2, 3]) = .next { placed Config.hardware [0x01] [5] with pc := 1, status := .halted, success := true } ∧
    Host.Core.run Sys2Proof.core 2 (State.reset.start [0x5F, 0x15, 0x00]) =
      .next { State.reset.start [0x5F, 0x15, 0x00] with pc := 2, stack := [1] } :=
  ⟨by rfl, by rfl, by rfl⟩

theorem witness_SuccessIsWrittenOnlyAtTheEnd :
    step (ready 0x01 [2, 3]) = .next { ready 0x01 [5] with pc := 1 } ∧
    step (placed Config.hardware [0x01] [2, 3]) = .next { placed Config.hardware [0x01] [5] with pc := 1, status := .halted, success := true } ∧
    step (ready 0x01 [2]) = .next { ready 0x01 [2] with pc := 1, status := .faulted .stackUnderflow, success := false } :=
  ⟨by rfl, by rfl, by rfl⟩

theorem witness_ExecutionResultAppearsWhenTheRunEnds :
    step (ready 0x01 [2, 3]) = .next { ready 0x01 [5] with pc := 1 } ∧
    step (placed Config.hardware [0x01] [2, 3]) = .next { placed Config.hardware [0x01] [5] with pc := 1, status := .halted, success := true } ∧
    step (ready 0x01 [2]) = .next { ready 0x01 [2] with pc := 1, status := .faulted .stackUnderflow, success := false } :=
  ⟨by rfl, by rfl, by rfl⟩

theorem witness_FaultEntryWritesStatusAndSuccessOnly :
    (placed Config.hardware [0x01] [2]).Dispatching ∧
    exec .add (placed Config.hardware [0x01] [2]) = .next { placed Config.hardware [0x01] [2] with pc := 1, status := .faulted .stackUnderflow, success := false } ∧
    (placed faulting [0xFE] [2]).Dispatching ∧
    exec .unassignedFE (placed faulting [0xFE] [2]) = .next { placed faulting [0xFE] [2] with pc := 1, status := .faulted .invalidOpcode, success := false } ∧
    (placed (capped 1) [0x5F] [2]).Dispatching ∧
    exec .push0 (placed (capped 1) [0x5F] [2]) = .next { placed (capped 1) [0x5F] [2] with pc := 1, status := .faulted .stackOverflow, success := false } :=
  ⟨⟨rfl, by decide +kernel⟩, by rfl, ⟨rfl, by decide +kernel⟩, by rfl, ⟨rfl, by decide +kernel⟩, by rfl⟩

theorem witness_FaultsHappenExactlyOnTheirConditions :
    (placed Config.hardware [0x01] [2]).Dispatching ∧
    raises .add (placed Config.hardware [0x01] [2]) .stackUnderflow ∧
    (placed faulting [0xFE] [2]).Dispatching ∧
    raises .unassignedFE (placed faulting [0xFE] [2]) .invalidOpcode ∧
    (placed (capped 1) [0x5F] [2]).Dispatching ∧
    raises .push0 (placed (capped 1) [0x5F] [2]) .stackOverflow :=
  ⟨⟨rfl, by decide +kernel⟩, by show _ < _; decide +kernel, ⟨rfl, by decide +kernel⟩, ⟨by decide +kernel, by decide +kernel⟩, ⟨rfl, by decide +kernel⟩, ⟨by decide +kernel, by decide +kernel⟩⟩

theorem witness_ThisHardwareRaisesOnlyUnderflow :
    step (ready 0x01 [2, 3]) = .next { ready 0x01 [5] with pc := 1 } ∧
    (ready 0x01 [2, 3]).status = .running ∧
    (ready 0x01 [2, 3]).cfg.unknownOpcodePolicy = .nop ∧
    (ready 0x01 [2, 3]).cfg.stackCapacity = none :=
  ⟨by rfl, rfl, rfl, rfl⟩

theorem witness_UnderflowPopsNothing :
    (ready 0x50 []).Dispatching ∧
    (ready 0x50 []).stack.length < arityOf .pop ∧
    (ready 0x01 [1]).Dispatching ∧
    (ready 0x01 [1]).stack.length < arityOf .add ∧
    (ready 0x08 [1, 2]).Dispatching ∧
    (ready 0x08 [1, 2]).stack.length < arityOf .addmod :=
  ⟨⟨rfl, by decide +kernel⟩, by decide +kernel, ⟨rfl, by decide +kernel⟩, by decide +kernel, ⟨rfl, by decide +kernel⟩, by decide +kernel⟩

theorem witness_NextInstructionStartsAfterTheLength :
    (ready 0x01 [2, 3]).Dispatching ∧
    classOf .add ≠ .stop ∧
    exec .add (ready 0x01 [2, 3]) = .next { ready 0x01 [5] with pc := 1 } ∧
    (∀ c, { ready 0x01 [5] with pc := 1 }.status ≠ .faulted c) ∧
    (placed Config.hardware [0x01] [2, 3]).Dispatching ∧
    exec .add (placed Config.hardware [0x01] [2, 3]) = .next { placed Config.hardware [0x01] [5] with pc := 1, status := .halted, success := true } ∧
    (∀ c, { placed Config.hardware [0x01] [5] with pc := 1, status := .halted, success := true }.status ≠ .faulted c) :=
  ⟨⟨rfl, by decide +kernel⟩, by decide +kernel, by rfl, (fun _ h => nomatch h), ⟨rfl, by decide +kernel⟩, by rfl, (fun _ h => nomatch h)⟩

theorem witness_FrameOfEveryInstruction :
    (ready 0x01 [2, 3]).Dispatching ∧
    exec .add (ready 0x01 [2, 3]) = .next { ready 0x01 [5] with pc := 1 } ∧
    (∀ c, { ready 0x01 [5] with pc := 1 }.status ≠ .faulted c) ∧
    (ready 0x01 [2]).Dispatching ∧
    exec .add (ready 0x01 [2]) = .next { ready 0x01 [2] with pc := 1, status := .faulted .stackUnderflow, success := false } ∧
    step (ready 0x01 [2, 3]) = .next { ready 0x01 [5] with pc := 1 } :=
  ⟨⟨rfl, by decide +kernel⟩, by rfl, (fun _ h => nomatch h), ⟨rfl, by decide +kernel⟩, by rfl, by rfl⟩

theorem witness_WordsBelowTheOperandsCannotMatter :
    (ready 0x01 [2, 3]).Dispatching ∧
    (ready 0x01 [2, 3]).cfg.stackCapacity = none ∧
    arityOf .add ≤ (ready 0x01 [2, 3]).stack.length ∧
    exec .add (ready 0x01 [2, 3]) = .next { ready 0x01 [5] with pc := 1 } :=
  ⟨⟨rfl, by decide +kernel⟩, rfl, by decide +kernel, by rfl⟩

theorem witness_StopHaltsTheRun :
    (ready 0x00 [7]).Dispatching ∧
    exec .stop (ready 0x00 [7]) = .next { ready 0x00 [7] with pc := 1, status := .halted, success := true } :=
  ⟨⟨rfl, by decide +kernel⟩, by rfl⟩

theorem witness_PopDiscardsTheTop :
    (ready 0x50 [7, 8]).Dispatching ∧
    (ready 0x50 [7, 8]).stack = 7 :: [8] :=
  ⟨⟨rfl, by decide +kernel⟩, rfl⟩

theorem witness_EveryPushCompletes :
    (ready 0x5F [7]).Dispatching ∧
    (ready 0x5F [7]).cfg.stackCapacity ≠ some (ready 0x5F [7]).stack.length ∧
    (placed (capped 2) [0x7F] [7]).Dispatching ∧
    (placed (capped 2) [0x7F] [7]).cfg.stackCapacity ≠ some (placed (capped 2) [0x7F] [7]).stack.length :=
  ⟨⟨rfl, by decide +kernel⟩, by decide +kernel, ⟨rfl, by decide +kernel⟩, by decide +kernel⟩

theorem witness_PushAtCapacityOverflows :
    (placed (capped 1) [0x5F] [7]).Dispatching ∧
    (placed (capped 1) [0x5F] [7]).cfg.stackCapacity = some (placed (capped 1) [0x5F] [7]).stack.length ∧
    classOf .push0 = .push ∧
    classOf .pop ≠ .push :=
  ⟨⟨rfl, by decide +kernel⟩, by decide +kernel, by decide +kernel, by decide +kernel⟩

theorem witness_StepPushesTheImmediateInTheCode :
    (placed (capped 1) [0x61, 0x01] [7]).Dispatching ∧
    opClass ((placed (capped 1) [0x61, 0x01] [7]).immByte (placed (capped 1) [0x61, 0x01] [7]).pc) = .push ∧
    (placed (capped 1) [0x61, 0x01] [7]).cfg.stackCapacity = some (placed (capped 1) [0x61, 0x01] [7]).stack.length ∧
    (placed Config.hardware [0x7F] [7]).Dispatching ∧
    opClass ((placed Config.hardware [0x7F] [7]).immByte (placed Config.hardware [0x7F] [7]).pc) = .push ∧
    (placed Config.hardware [0x7F] [7]).cfg.stackCapacity ≠ some (placed Config.hardware [0x7F] [7]).stack.length :=
  ⟨⟨rfl, by decide +kernel⟩, by decide +kernel, by decide +kernel, ⟨rfl, by decide +kernel⟩, by decide +kernel, by decide +kernel⟩

theorem witness_UnassignedByteOnlyAdvancesOrFaults :
    (ready 0x0C []).Dispatching ∧
    classOf .unassigned0C = .unassigned ∧
    classOf .unassignedFF = .unassigned ∧
    (ready 0x0C []).cfg.unknownOpcodePolicy = .nop ∧
    (placed faulting [0xFF] []).Dispatching ∧
    (placed faulting [0xFF] []).cfg.unknownOpcodePolicy = .fault :=
  ⟨⟨rfl, by decide +kernel⟩, by decide +kernel, by decide +kernel, rfl, ⟨rfl, by decide +kernel⟩, rfl⟩

theorem witness_AluTemplateReplacesItsOperands :
    (ready 0x01 [2, 3]).Dispatching ∧
    classOf .add = .alu .add ∧
    aluArity .add ≤ (ready 0x01 [2, 3]).stack.length ∧
    (ready 0x01 [2]).Dispatching ∧
    (ready 0x01 [2]).stack.length < aluArity .add :=
  ⟨⟨rfl, by decide +kernel⟩, by decide +kernel, by decide +kernel, ⟨rfl, by decide +kernel⟩, by decide +kernel⟩

theorem witness_AddWrapsModulo :
    (ready 0x01 [allOnes, 1, 9]).Dispatching ∧
    (ready 0x01 [allOnes, 1, 9]).stack = allOnes :: 1 :: [9] :=
  ⟨⟨rfl, by decide +kernel⟩, rfl⟩

theorem witness_MulWrapsModulo :
    (ready 0x02 [allOnes, allOnes, 9]).Dispatching ∧
    (ready 0x02 [allOnes, allOnes, 9]).stack = allOnes :: allOnes :: [9] :=
  ⟨⟨rfl, by decide +kernel⟩, rfl⟩

theorem witness_SubIsPrimaryMinusSecondary :
    (ready 0x03 [0, allOnes, 9]).Dispatching ∧
    (ready 0x03 [0, allOnes, 9]).stack = 0 :: allOnes :: [9] :=
  ⟨⟨rfl, by decide +kernel⟩, rfl⟩

theorem witness_DivIsTheFloorQuotient :
    (ready 0x04 [allOnes, 0, 9]).Dispatching ∧
    (ready 0x04 [allOnes, 0, 9]).stack = allOnes :: 0 :: [9] ∧
    (ready 0x04 [allOnes, 1, 9]).Dispatching ∧
    (ready 0x04 [allOnes, 1, 9]).stack = allOnes :: 1 :: [9] ∧
    (1 : Word) ≠ 0 :=
  ⟨⟨rfl, by decide +kernel⟩, rfl, ⟨rfl, by decide +kernel⟩, rfl, by decide +kernel⟩

theorem witness_SdivTruncatesTowardZero :
    (ready 0x05 [minSigned, 0, 9]).Dispatching ∧
    (ready 0x05 [minSigned, 0, 9]).stack = minSigned :: 0 :: [9] ∧
    (ready 0x05 [minSigned, allOnes, 9]).Dispatching ∧
    (ready 0x05 [minSigned, allOnes, 9]).stack = minSigned :: allOnes :: [9] ∧
    (ready 0x05 [minSigned, 1, 9]).Dispatching ∧
    (ready 0x05 [minSigned, 1, 9]).stack = minSigned :: 1 :: [9] ∧
    (ready 0x05 [maxSigned, allOnes, 9]).Dispatching ∧
    (ready 0x05 [maxSigned, allOnes, 9]).stack = maxSigned :: allOnes :: [9] ∧
    (1 : Word) ≠ 0 ∧
    ¬ (minSigned = minSigned ∧ (1 : Word) = allOnes) ∧
    (allOnes : Word) ≠ 0 ∧
    ¬ (maxSigned = minSigned ∧ allOnes = allOnes) :=
  ⟨⟨rfl, by decide +kernel⟩, rfl, ⟨rfl, by decide +kernel⟩, rfl, ⟨rfl, by decide +kernel⟩, rfl, ⟨rfl, by decide +kernel⟩, rfl, by decide +kernel, by decide +kernel, by decide +kernel, by decide +kernel⟩

theorem witness_ModIsTheUnsignedRemainder :
    (ready 0x06 [allOnes, 0, 9]).Dispatching ∧
    (ready 0x06 [allOnes, 0, 9]).stack = allOnes :: 0 :: [9] ∧
    (ready 0x06 [allOnes, 1, 9]).Dispatching ∧
    (ready 0x06 [allOnes, 1, 9]).stack = allOnes :: 1 :: [9] ∧
    (1 : Word) ≠ 0 :=
  ⟨⟨rfl, by decide +kernel⟩, rfl, ⟨rfl, by decide +kernel⟩, rfl, by decide +kernel⟩

theorem witness_SmodTakesTheDividendsSign :
    (ready 0x07 [minSigned, 0, 9]).Dispatching ∧
    (ready 0x07 [minSigned, 0, 9]).stack = minSigned :: 0 :: [9] ∧
    (ready 0x07 [minSigned, allOnes, 9]).Dispatching ∧
    (ready 0x07 [minSigned, allOnes, 9]).stack = minSigned :: allOnes :: [9] ∧
    (allOnes : Word) ≠ 0 :=
  ⟨⟨rfl, by decide +kernel⟩, rfl, ⟨rfl, by decide +kernel⟩, rfl, by decide +kernel⟩

theorem witness_AddmodUsesTheExactSum :
    (ready 0x08 [allOnes, allOnes, 0, 9]).Dispatching ∧
    (ready 0x08 [allOnes, allOnes, 0, 9]).stack = allOnes :: allOnes :: 0 :: [9] ∧
    (ready 0x08 [allOnes, allOnes, 1, 9]).Dispatching ∧
    (ready 0x08 [allOnes, allOnes, 1, 9]).stack = allOnes :: allOnes :: 1 :: [9] ∧
    (1 : Word) ≠ 0 :=
  ⟨⟨rfl, by decide +kernel⟩, rfl, ⟨rfl, by decide +kernel⟩, rfl, by decide +kernel⟩

theorem witness_MulmodUsesTheExactProduct :
    (ready 0x09 [allOnes, allOnes, 0, 9]).Dispatching ∧
    (ready 0x09 [allOnes, allOnes, 0, 9]).stack = allOnes :: allOnes :: 0 :: [9] ∧
    (ready 0x09 [allOnes, allOnes, 1, 9]).Dispatching ∧
    (ready 0x09 [allOnes, allOnes, 1, 9]).stack = allOnes :: allOnes :: 1 :: [9] ∧
    (1 : Word) ≠ 0 :=
  ⟨⟨rfl, by decide +kernel⟩, rfl, ⟨rfl, by decide +kernel⟩, rfl, by decide +kernel⟩

theorem witness_ExpIsTheExactPowerModulo :
    (ready 0x0A [0, 0, 9]).Dispatching ∧
    (ready 0x0A [0, 0, 9]).stack = 0 :: 0 :: [9] ∧
    (ready 0x0A [3, allOnes, 9]).Dispatching ∧
    (ready 0x0A [3, allOnes, 9]).stack = 3 :: allOnes :: [9] :=
  ⟨⟨rfl, by decide +kernel⟩, rfl, ⟨rfl, by decide +kernel⟩, rfl⟩

theorem witness_SignextendReplicatesTheSignBit :
    (ready 0x0B [31, minSigned, 9]).Dispatching ∧
    (ready 0x0B [31, minSigned, 9]).stack = 31 :: minSigned :: [9] ∧
    (ready 0x0B [32, 0xFF, 9]).Dispatching ∧
    (ready 0x0B [32, 0xFF, 9]).stack = 32 :: 0xFF :: [9] ∧
    ¬ 32 ≤ (31 : Word).toNat ∧
    32 ≤ (32 : Word).toNat :=
  ⟨⟨rfl, by decide +kernel⟩, rfl, ⟨rfl, by decide +kernel⟩, rfl, by decide +kernel, by decide +kernel⟩

theorem witness_UnsignedComparisonsAnswerOneOrZero :
    (ready 0x10 [0, allOnes, 9]).Dispatching ∧
    (ready 0x10 [0, allOnes, 9]).stack = 0 :: allOnes :: [9] ∧
    (ready 0x11 [5, 5, 9]).Dispatching ∧
    (ready 0x11 [5, 5, 9]).stack = 5 :: 5 :: [9] :=
  ⟨⟨rfl, by decide +kernel⟩, rfl, ⟨rfl, by decide +kernel⟩, rfl⟩

theorem witness_SignedComparisonsAnswerOneOrZero :
    (ready 0x12 [minSigned, maxSigned, 9]).Dispatching ∧
    (ready 0x12 [minSigned, maxSigned, 9]).stack = minSigned :: maxSigned :: [9] ∧
    (ready 0x13 [allOnes, minSigned, 9]).Dispatching ∧
    (ready 0x13 [allOnes, minSigned, 9]).stack = allOnes :: minSigned :: [9] :=
  ⟨⟨rfl, by decide +kernel⟩, rfl, ⟨rfl, by decide +kernel⟩, rfl⟩

theorem witness_EqualityAndZeroTests :
    (ready 0x14 [5, 5, 9]).Dispatching ∧
    (ready 0x14 [5, 5, 9]).stack = 5 :: 5 :: [9] ∧
    (ready 0x14 [0, minSigned, 9]).Dispatching ∧
    (ready 0x14 [0, minSigned, 9]).stack = 0 :: minSigned :: [9] ∧
    (ready 0x15 [0, 9]).Dispatching ∧
    (ready 0x15 [0, 9]).stack = 0 :: [9] ∧
    (ready 0x15 [minSigned, 9]).Dispatching ∧
    (ready 0x15 [minSigned, 9]).stack = minSigned :: [9] ∧
    BitsAre 5 (BitVec.getLsbD (5 : Word)) ∧
    ¬ BitsAre 0 (BitVec.getLsbD minSigned) ∧
    BitsAre 0 (fun _ => false) ∧
    ¬ BitsAre minSigned (fun _ => false) :=
  ⟨⟨rfl, by decide +kernel⟩, rfl, ⟨rfl, by decide +kernel⟩, rfl, ⟨rfl, by decide +kernel⟩, rfl, ⟨rfl, by decide +kernel⟩, rfl, (fun _ _ => rfl), (fun h => absurd (h 255 (by decide)) (by decide +kernel)), (fun _ _ => BitVec.getLsbD_zero), (fun h => absurd (h 255 (by decide)) (by decide +kernel))⟩

theorem witness_LogicalOperationsActBitByBit :
    (ready 0x16 [allOnes, 0, 9]).Dispatching ∧
    (ready 0x16 [allOnes, 0, 9]).stack = allOnes :: 0 :: [9] ∧
    (ready 0x17 [minSigned, 1, 9]).Dispatching ∧
    (ready 0x17 [minSigned, 1, 9]).stack = minSigned :: 1 :: [9] ∧
    (ready 0x18 [allOnes, allOnes, 9]).Dispatching ∧
    (ready 0x18 [allOnes, allOnes, 9]).stack = allOnes :: allOnes :: [9] ∧
    (ready 0x19 [0, 9]).Dispatching ∧
    (ready 0x19 [0, 9]).stack = 0 :: [9] :=
  ⟨⟨rfl, by decide +kernel⟩, rfl, ⟨rfl, by decide +kernel⟩, rfl, ⟨rfl, by decide +kernel⟩, rfl, ⟨rfl, by decide +kernel⟩, rfl⟩

theorem witness_ShlMovesBitsUp :
    (ready 0x1B [255, 1, 9]).Dispatching ∧
    (ready 0x1B [255, 1, 9]).stack = 255 :: 1 :: [9] ∧
    (ready 0x1B [256, 1, 9]).Dispatching ∧
    (ready 0x1B [256, 1, 9]).stack = 256 :: 1 :: [9] :=
  ⟨⟨rfl, by decide +kernel⟩, rfl, ⟨rfl, by decide +kernel⟩, rfl⟩

theorem witness_ShrMovesBitsDown :
    (ready 0x1C [255, minSigned, 9]).Dispatching ∧
    (ready 0x1C [255, minSigned, 9]).stack = 255 :: minSigned :: [9] ∧
    (ready 0x1C [256, allOnes, 9]).Dispatching ∧
    (ready 0x1C [256, allOnes, 9]).stack = 256 :: allOnes :: [9] :=
  ⟨⟨rfl, by decide +kernel⟩, rfl, ⟨rfl, by decide +kernel⟩, rfl⟩

theorem witness_SarFillsWithTheSignBit :
    (ready 0x1D [255, minSigned, 9]).Dispatching ∧
    (ready 0x1D [255, minSigned, 9]).stack = 255 :: minSigned :: [9] ∧
    (ready 0x1D [256, minSigned, 9]).Dispatching ∧
    (ready 0x1D [256, minSigned, 9]).stack = 256 :: minSigned :: [9] ∧
    (255 : Word).toNat ≤ 255 ∧
    ¬ (256 : Word).toNat ≤ 255 :=
  ⟨⟨rfl, by decide +kernel⟩, rfl, ⟨rfl, by decide +kernel⟩, rfl, by decide +kernel, by decide +kernel⟩

theorem witness_DivisionByZeroIsZero :
    (ready 0x04 [7, 0, 9]).Dispatching ∧
    (ready 0x04 [7, 0, 9]).stack = 7 :: 0 :: [9] ∧
    (ready 0x08 [5, 6, 0, 9]).Dispatching ∧
    (ready 0x08 [5, 6, 0, 9]).stack = 5 :: 6 :: 0 :: [9] ∧
    Instr.div ∈ [Instr.div, .sdiv, .mod, .smod] ∧
    Instr.addmod ∈ [Instr.addmod, .mulmod] :=
  ⟨⟨rfl, by decide +kernel⟩, rfl, ⟨rfl, by decide +kernel⟩, rfl, by decide +kernel, by decide +kernel⟩

theorem witness_ArithmeticEdgeCasesAreNotFaults :
    (ready 0x05 [minSigned, allOnes]).Dispatching ∧
    classOf .sdiv = .alu .sdiv ∧
    aluArity .sdiv ≤ (ready 0x05 [minSigned, allOnes]).stack.length ∧
    (placed Config.hardware [0x7F] [7]).Dispatching ∧
    opClass ((placed Config.hardware [0x7F] [7]).immByte (placed Config.hardware [0x7F] [7]).pc) = .push ∧
    (placed Config.hardware [0x7F] [7]).cfg.stackCapacity ≠ some (placed Config.hardware [0x7F] [7]).stack.length ∧
    step (placed Config.hardware [0x01] [2, 3]) = .next { placed Config.hardware [0x01] [5] with pc := 1, status := .halted, success := true } ∧
    (∀ c, { placed Config.hardware [0x01] [5] with pc := 1, status := .halted, success := true }.status ≠ .faulted c) ∧
    (placed Config.hardware [0x01] [5]).codeLen ≤ 1 ∧
    255 < (256 : Word).toNat ∧
    AluOp.div ∈ [AluOp.div, .sdiv, .mod, .smod] ∧
    AluOp.addmod ∈ [AluOp.addmod, .mulmod] ∧
    State.reset.status = .running ∧
    State.reset.codeLen ≤ State.reset.pc :=
  ⟨⟨rfl, by decide +kernel⟩, by decide +kernel, by decide +kernel, ⟨rfl, by decide +kernel⟩, by decide +kernel, by decide +kernel, by rfl, (fun _ h => nomatch h), by decide +kernel, by decide +kernel, by decide +kernel, by decide +kernel, rfl, by decide +kernel⟩

theorem witness_SarAgreesWithShrOnNonNegative :
    maxSigned.getLsbD 255 = false :=
  by decide +kernel

end Sys2Proof.Tests
end

section
/-! PROOFS. The pc after an instruction and after a step: it moves forward inside the code (10_state.md R21), so a pc
register that can hold `CODE_LEN_MAX` never wraps (00_scope.md R8, 92 D4). -/

namespace Sys2Proof.Machine

/-- 10_state.md R21, R22: whether it halts, faults or completes, an instruction moves pc forward, and not past the end
of code. -/
theorem exec_pc_bounds {i : Instr} {s t : State} (hpc : s.pc < s.codeLen) (h : exec i s = .next t) :
    s.pc < t.pc ∧ t.pc ≤ s.codeLen := by
  obtain ⟨-, rfl⟩ | ⟨c, -, rfl⟩ | ⟨-, rfl⟩ | ⟨-, -, rfl⟩ | ⟨-, rfl⟩ | ⟨op, -, -, rfl⟩ := exec_cases h
  case inl => exact ⟨Nat.lt_succ_self _, hpc⟩
  case inr.inr.inl =>
    rw [State.completedAt_pc]
    omega
  all_goals
    simp only [State.faultedBy_pc, State.completedAt_pc]
    exact ⟨Nat.lt_succ_self _, hpc⟩

/-- 10_state.md R21: a step neither moves pc back nor past the end of code. -/
theorem step_pc_bounds {s t : State} (hpc : s.pc ≤ s.codeLen) (h : step s = .next t) :
    s.pc ≤ t.pc ∧ t.pc ≤ s.codeLen := by
  obtain ⟨-, ⟨-, rfl⟩ | ⟨hlt, i, hexec⟩⟩ := step_cases h
  · rw [State.halt_pc]
    exact ⟨le_rfl, hpc⟩
  · exact (exec_pc_bounds hlt hexec).imp_left Nat.le_of_lt

/-- Settles O20: pc stays at most `CODE_LEN` (`step_pc_bounds`), which the width can hold by the premises. -/
theorem physicalPcWidthSuffices : Obligations.PhysicalPcWidthSuffices := by
  unfold Obligations.PhysicalPcWidthSuffices
  intro s t w hwidth haccepted hinv hstep
  calc t.pc ≤ s.codeLen := (step_pc_bounds hinv.pcBound hstep).2
    _ ≤ Config.codeLenMax := haccepted
    _ < 2 ^ w := hwidth

end Sys2Proof.Machine
end

section
/-! PROOFS. What every instruction and every step leaves unchanged, and what the status register says of the next state
(10_state.md R19, R24, R25, R30, R32): the facts the invariant and the outputs rest on. -/

namespace Sys2Proof.Machine

/-- R63, R67: an instruction of a running machine that completes does not fault. -/
theorem State.completedAt_status_ne_faulted {s : State} (hr : s.status = .running) (pc : Nat) (st : List Word)
    (c : FaultCause) : (s.completedAt pc st).status ≠ .faulted c := by
  rw [State.completedAt_status, hr]
  split <;> exact Status.noConfusion

/-- 60_exceptions.md R134, R138: under the condition of a fault the instruction takes it. -/
theorem exec_of_raises {i : Instr} {s : State} {c : FaultCause} (h : raises i s c) :
    exec i s = .next (s.faultedBy c) := by
  rw [exec_by_class]
  cases c with
  | stackUnderflow =>
    simp only [raises, arityOf] at h
    cases hc : classOf i with
    | pop => rw [hc] at h; simp only [execPop_eq]; exact if_pos h
    | alu op => rw [hc] at h; simp only [execAlu_eq]; exact if_pos h
    | stop | push | unassigned => rw [hc] at h; exact absurd h (Nat.not_lt_zero _)
  | invalidOpcode =>
    obtain ⟨hc, hpolicy⟩ := h
    rw [hc]
    simp only [execUnassigned_eq, if_pos hpolicy]
  | stackOverflow =>
    obtain ⟨hc, hfull⟩ := h
    rw [hc]
    simp only [execPush_eq, if_pos hfull]

/-- R30, R32, R49: an instruction writes neither the parameters nor the code ROM. -/
theorem exec_cfg_code {i : Instr} {s t : State} (h : exec i s = .next t) :
    t.cfg = s.cfg ∧ t.codeLen = s.codeLen ∧ t.code = s.code := by
  obtain ⟨-, rfl⟩ | ⟨c, -, rfl⟩ | ⟨-, rfl⟩ | ⟨-, -, rfl⟩ | ⟨-, rfl⟩ | ⟨op, -, -, rfl⟩ := exec_cases h
  case inl => exact ⟨rfl, rfl, rfl⟩
  case inr.inl => exact ⟨rfl, rfl, rfl⟩
  all_goals exact ⟨State.completedAt_cfg .., State.completedAt_codeLen .., State.completedAt_code ..⟩

/-- R30, R32, R49: nor does a step, the halt at the end of code included. -/
theorem step_cfg_code {s t : State} (h : step s = .next t) :
    t.cfg = s.cfg ∧ t.codeLen = s.codeLen ∧ t.code = s.code := by
  obtain ⟨-, ⟨-, rfl⟩ | ⟨-, i, hexec⟩⟩ := step_cases h
  · exact ⟨rfl, rfl, rfl⟩
  · exact exec_cfg_code hexec

/-- 20_memory.md R49: where the code ROM is the same, every address reads the same. -/
theorem State.readCode_congr {s t : State} (hlen : t.codeLen = s.codeLen) (hcode : t.code = s.code) (a : Nat) :
    t.readCode a = s.readCode a := by
  simp only [State.readCode, hlen, hcode]

/-- R24, R25, R67: what the status of a completed instruction says of success and of pc. -/
theorem State.completedAt_status_cases {s : State} (hr : s.status = .running) (pc : Nat) (st : List Word) :
    ((s.completedAt pc st).status = .halted ∧ (s.completedAt pc st).success = true) ∨
    ((s.completedAt pc st).status = .running ∧ (s.completedAt pc st).success = s.success ∧ pc < s.codeLen) := by
  rw [State.completedAt_status, State.completedAt_success]
  split
  · exact .inl ⟨rfl, rfl⟩
  · exact .inr ⟨hr, rfl, by omega⟩

/-- R24, R25, R67, R138: the status after an instruction, with success, and with pc while the run goes on. -/
theorem exec_status_cases {i : Instr} {s t : State} (hr : s.status = .running) (h : exec i s = .next t) :
    (t.status = .halted ∧ t.success = true) ∨
    (∃ c, raises i s c ∧ t = s.faultedBy c) ∨
    (t.status = .running ∧ t.success = s.success ∧ t.pc < t.codeLen) := by
  obtain ⟨-, rfl⟩ | ⟨c, hc, rfl⟩ | ⟨-, rfl⟩ | ⟨-, -, rfl⟩ | ⟨-, rfl⟩ | ⟨op, -, -, rfl⟩ := exec_cases h
  case inl => exact .inl ⟨rfl, rfl⟩
  case inr.inl => exact .inr (.inl ⟨c, hc, rfl⟩)
  all_goals
    rw [State.completedAt_pc, State.completedAt_codeLen]
    exact (State.completedAt_status_cases hr _ _).imp_right .inr

/-- The same of a step, which also halts at the end of code (R64). -/
theorem step_status_cases {s t : State} (h : step s = .next t) :
    (t.status = .halted ∧ t.success = true) ∨
    (∃ i c, raises i s c ∧ t = s.faultedBy c) ∨
    (t.status = .running ∧ t.success = s.success ∧ t.pc < t.codeLen) := by
  obtain ⟨hr, ⟨-, rfl⟩ | ⟨-, i, hexec⟩⟩ := step_cases h
  · exact .inl ⟨rfl, rfl⟩
  · exact (exec_status_cases hr hexec).imp_right (.imp_left fun hfault => ⟨i, hfault⟩)

/-- 30_encoding.md R55, 10_state.md R20: a fault leaves the whole stack; any other end pops the operands and pushes
the results on what lies below them. -/
theorem exec_stack_cases {i : Instr} {s t : State} (hr : s.status = .running) (h : exec i s = .next t) :
    (∃ c, t = s.faultedBy c) ∨
    ((∀ c, t.status ≠ .faulted c) ∧ arityOf i ≤ s.stack.length ∧
      ∃ pushed, pushed.length = pushesOf i ∧ t.stack = pushed ++ s.stack.drop (arityOf i)) := by
  simp only [arityOf, pushesOf]
  obtain ⟨hc, rfl⟩ | ⟨c, -, rfl⟩ | ⟨hc, rfl⟩ | ⟨hc, hlen, rfl⟩ | ⟨hc, rfl⟩ | ⟨op, hc, hlen, rfl⟩ := exec_cases h
  case inr.inl => exact .inl ⟨c, rfl⟩
  all_goals rw [hc]
  case inl => exact .inr ⟨nofun, Nat.zero_le _, [], rfl, rfl⟩
  all_goals
    rw [State.completedAt_stack]
    refine .inr ⟨State.completedAt_status_ne_faulted hr _ _, ?_⟩
  · exact ⟨Nat.zero_le _, [_], rfl, rfl⟩
  · exact ⟨hlen, [], rfl, List.drop_one.symm⟩
  · exact ⟨Nat.zero_le _, [], rfl, rfl⟩
  · exact ⟨hlen, [_], rfl, rfl⟩

end Sys2Proof.Machine
end

section
/-! PROOFS. The invariant of runs (`State.Inv`): the reset state meets it and every step keeps it. -/

namespace Sys2Proof.Machine

/-- R19: a depth fits when no finite capacity is below it. -/
theorem Config.admits_iff {c : Config} {d : Nat} :
    c.admits d = true ↔ ∀ cap, c.stackCapacity = some cap → d ≤ cap := by
  unfold Config.admits
  split <;> simp_all

/-- R19: a stack that is not deeper fits as well. -/
theorem Config.admits_of_le {c : Config} {d d' : Nat} (hle : d ≤ d') (h : c.admits d' = true) :
    c.admits d = true :=
  Config.admits_iff.2 fun cap hcap => hle.trans (Config.admits_iff.1 h cap hcap)

/-- R19, R69: below the capacity there is room for one Word more. -/
theorem Config.admits_succ {c : Config} {d : Nat} (hroom : c.stackCapacity ≠ some d) (h : c.admits d = true) :
    c.admits (d + 1) = true :=
  Config.admits_iff.2 fun cap hcap =>
    Nat.lt_of_le_of_ne (Config.admits_iff.1 h cap hcap) (by rintro rfl; exact hroom hcap)

/-- R55: every ALU operation has an operand, so its one result does not deepen the stack. -/
theorem aluArity_pos (op : AluOp) : 0 < aluArity op := by
  cases op <;> decide

/-- R69: a PUSHk that completes was below the capacity. -/
theorem not_atCapacity_of_push {i : Instr} {s : State} {pc : Nat} {w : Word} (hc : classOf i = .push)
    (h : exec i s = .next (s.completedAt pc (w :: s.stack))) : s.cfg.stackCapacity ≠ some s.stack.length := by
  intro hfull
  rw [exec_of_raises (c := .stackOverflow) ⟨hc, hfull⟩] at h
  have hstack := congrArg State.stack (Host.Outcome.next.inj h)
  rw [State.completedAt_stack] at hstack
  exact List.cons_ne_self _ _ hstack.symm

/-- R19: an instruction keeps the depth within the capacity. -/
theorem exec_keeps_capacity {i : Instr} {s t : State} (hcap : s.cfg.admits s.depth = true)
    (h : exec i s = .next t) : t.cfg.admits t.depth = true := by
  obtain ⟨-, rfl⟩ | ⟨c, -, rfl⟩ | ⟨hc, rfl⟩ | ⟨-, -, rfl⟩ | ⟨-, rfl⟩ | ⟨op, -, hlen, rfl⟩ := exec_cases h
  case inl => exact hcap
  case inr.inl => exact hcap
  all_goals rw [State.completedAt_cfg, State.depth_eq, State.completedAt_stack]
  · exact Config.admits_succ (not_atCapacity_of_push hc h) hcap
  · exact Config.admits_of_le (by simp) hcap
  · exact hcap
  · have := aluArity_pos op
    exact Config.admits_of_le (by rw [List.length_cons, List.length_drop, State.depth_eq]; omega) hcap

/-- R19: a step keeps the depth within the capacity. -/
theorem step_keeps_capacity {s t : State} (hcap : s.cfg.admits s.depth = true) (h : step s = .next t) :
    t.cfg.admits t.depth = true := by
  obtain ⟨-, ⟨-, rfl⟩ | ⟨-, i, hexec⟩⟩ := step_cases h
  · exact hcap
  · exact exec_keeps_capacity hcap hexec

/-- R134, R136, R137: a fault is taken only where the parameters allow its cause. -/
theorem causePossible_of_raises {i : Instr} {s : State} {c : FaultCause} (h : raises i s c) :
    causePossible s.cfg c = true := by
  cases c with
  | stackUnderflow => rfl
  | invalidOpcode => exact decide_eq_true h.2
  | stackOverflow => exact Option.isSome_of_eq_some h.2

/-- R24, R25, R67, R134, R138: after a step the status agrees with the rest of the state. -/
theorem step_statusAgrees {s t : State} (h : step s = .next t) : statusAgrees t := by
  unfold statusAgrees
  obtain ⟨hhalt, hsuccess⟩ | ⟨i, c, hc, rfl⟩ | ⟨hrun, -, hpc⟩ := step_status_cases h
  · rw [hhalt]
    exact hsuccess
  · exact ⟨rfl, Nat.succ_pos _, causePossible_of_raises hc⟩
  · rw [hrun]
    exact .inl hpc

/-- Settles O17: each field of the invariant is kept by its own rule; the code ROM is the old one. -/
theorem stepKeepsTheInvariant : Obligations.StepKeepsTheInvariant := by
  unfold Obligations.StepKeepsTheInvariant
  intro s t hinv hstep
  obtain ⟨-, hlen, hcode⟩ := step_cfg_code hstep
  exact {
    memory := hcode ▸ hinv.memory
    inside := by
      rw [hcode, hlen]
      exact hinv.inside
    pcBound := hlen ▸ (step_pc_bounds hinv.pcBound hstep).2
    capacity := step_keeps_capacity hinv.capacity hstep
    agrees := step_statusAgrees hstep }

/-- Settles O14: no code, pc 0, an empty stack and no capacity to exceed. -/
theorem resetMeetsTheInvariant : Obligations.ResetMeetsTheInvariant := by
  unfold Obligations.ResetMeetsTheInvariant
  exact {
    memory := Memory.reset_wf
    inside := nofun
    pcBound := Nat.le_refl 0
    capacity := rfl
    agrees := .inr rfl }

/-- Settles O13: each conjunct is a field of the reset state, and no code supplied is the code it has. -/
theorem resetHasTheSpecsValues : Obligations.ResetHasTheSpecsValues :=
  ⟨rfl, rfl, rfl, rfl, rfl, rfl, rfl⟩

/-- Settles O19: the bounds of `step_pc_bounds`, for the code length that the step keeps. -/
theorem pcNeverDecreasesAndStaysInTheCode : Obligations.PcNeverDecreasesAndStaysInTheCode := by
  unfold Obligations.PcNeverDecreasesAndStaysInTheCode
  intro s t hpc hstep
  obtain ⟨-, hlen, -⟩ := step_cfg_code hstep
  rw [hlen]
  exact step_pc_bounds hpc hstep

end Sys2Proof.Machine
end

section
/-! PROOFS. The success flag and the outputs (10_state.md R25, R26, R33): written, and read, only when a run ends. -/

namespace Sys2Proof.Machine

/-- Settles O22: the three clauses are the three cases of `step_status_cases`; that nothing follows is R139. -/
theorem successIsWrittenOnlyAtTheEnd : Obligations.SuccessIsWrittenOnlyAtTheEnd := by
  unfold Obligations.SuccessIsWrittenOnlyAtTheEnd
  intro s t hstep
  have hlast : t.status ≠ .running → ∀ v, step t ≠ .next v := by
    intro hended v
    rw [step_of_not_running hended]
    exact nofun
  obtain ⟨hhalt, hsuccess⟩ | ⟨i, c, -, rfl⟩ | ⟨hrun, hsuccess, -⟩ := step_status_cases hstep
  · refine ⟨?_, ?_, ?_, hlast⟩ <;> simp [hhalt, hsuccess]
  · refine ⟨?_, ?_, ?_, hlast⟩ <;> simp
  · refine ⟨?_, ?_, ?_, hlast⟩ <;> simp [hrun, hsuccess]

/-- R33: the outputs have no value while the run goes on (log entry 7). -/
theorem State.outputs_of_running {t : State} (h : t.status = .running) :
    t.done = false ∧ t.executionResult = none ∧ t.successOut = none ∧ t.resultStack = none := by
  have hdone : t.done = false := by simp [State.done, h]
  simp [State.executionResult, State.successOut, State.resultStack, hdone]

/-- R26, R33: once the run has ended they are the final stack and the success flag. -/
theorem State.outputs_of_ended {t : State} (h : t.status ≠ .running) :
    t.done = true ∧ t.executionResult = some (t.stack, t.success) ∧ t.successOut = some t.success ∧
      t.resultStack = some t.stack := by
  have hdone : t.done = true := by simp [State.done, h]
  simp [State.executionResult, State.successOut, State.resultStack, hdone]

/-- R25: a step that ends the run writes success 1 exactly when it halts. -/
theorem success_of_step_ended {s t : State} (h : step s = .next t) (hended : t.status ≠ .running) :
    t.success = decide (t.status = .halted) := by
  obtain ⟨hhalt, hsuccess⟩ | ⟨i, c, -, rfl⟩ | ⟨hrun, -, -⟩ := step_status_cases h
  · rw [hsuccess, hhalt]
    rfl
  · rfl
  · exact absurd hrun hended

/-- Settles O23: the outputs by status, with the success flag that the ending step wrote. -/
theorem executionResultAppearsWhenTheRunEnds : Obligations.ExecutionResultAppearsWhenTheRunEnds := by
  unfold Obligations.ExecutionResultAppearsWhenTheRunEnds
  intro s t hstep
  refine ⟨State.outputs_of_running, fun hended => ?_⟩
  rw [← success_of_step_ended hstep hended]
  exact State.outputs_of_ended hended

end Sys2Proof.Machine
end

section
/-! PROOFS. The frame of every instruction (10_state.md R20, R29, R32): the parameters, the code and the Words below the
operands are left as they are, and those Words are not read either. -/

namespace Sys2Proof.Machine

/-- R55, R68: without a fault an instruction had its operands, and what lay below them lies below its results. -/
theorem exec_stack_frame {i : Instr} {s t : State} (hr : s.status = .running) (h : exec i s = .next t)
    (hok : ∀ c, t.status ≠ .faulted c) :
    arityOf i ≤ s.stack.length ∧ t.stack.drop (pushesOf i) = s.stack.drop (arityOf i) ∧
      t.stack.length + arityOf i = s.stack.length + pushesOf i := by
  obtain ⟨c, rfl⟩ | ⟨-, hlen, pushed, hpushed, hstack⟩ := exec_stack_cases hr h
  · exact absurd rfl (hok c)
  · refine ⟨hlen, by rw [hstack, ← hpushed, List.drop_left], ?_⟩
    rw [hstack, List.length_append, List.length_drop, hpushed]
    omega

/-- R68, R138: with a fault the whole stack is as it was. -/
theorem exec_stack_of_faulted {i : Instr} {s t : State} {c : FaultCause} (hr : s.status = .running)
    (h : exec i s = .next t) (hfault : t.status = .faulted c) : t.stack = s.stack := by
  obtain ⟨c', rfl⟩ | ⟨hok, -⟩ := exec_stack_cases hr h
  · rfl
  · exact absurd hfault (hok c)

/-- R25: an instruction after which the run goes on does not write success. -/
theorem exec_success_of_running {i : Instr} {s t : State} (hr : s.status = .running) (h : exec i s = .next t)
    (hrun : t.status = .running) : t.success = s.success := by
  obtain ⟨hhalt, -⟩ | ⟨c, -, rfl⟩ | ⟨-, hsuccess, -⟩ := exec_status_cases hr h
  · rw [hhalt] at hrun
    cases hrun
  · cases hrun
  · exact hsuccess

/-- Settles O29: the frame, part by part; for the parameters also of a step that runs no instruction. -/
theorem frameOfEveryInstruction : Obligations.FrameOfEveryInstruction := by
  unfold Obligations.FrameOfEveryInstruction
  refine ⟨?_, fun s t hstep => (step_cfg_code hstep).1⟩
  rintro i s t ⟨hr, -⟩ hexec
  obtain ⟨hcfg, hlen, hcode⟩ := exec_cfg_code hexec
  exact ⟨hcfg, hlen, hcode, State.readCode_congr hlen hcode, exec_stack_frame hr hexec,
    fun c hfault => exec_stack_of_faulted hr hexec hfault, exec_success_of_running hr hexec⟩

/-- R18: the state with the Words `below` placed below its stack. -/
def State.withBelow (s : State) (below : List Word) : State :=
  { s with stack := s.stack ++ below }

@[simp] theorem State.withBelow_cfg (s : State) (below : List Word) : (s.withBelow below).cfg = s.cfg := (rfl)
@[simp] theorem State.withBelow_codeLen (s : State) (below : List Word) :
    (s.withBelow below).codeLen = s.codeLen := (rfl)
@[simp] theorem State.withBelow_pc (s : State) (below : List Word) : (s.withBelow below).pc = s.pc := (rfl)
@[simp] theorem State.withBelow_stack (s : State) (below : List Word) :
    (s.withBelow below).stack = s.stack ++ below := (rfl)

/-- R138: a fault leaves the Words below in place. -/
theorem State.faultedBy_withBelow (s : State) (below : List Word) (c : FaultCause) :
    (s.withBelow below).faultedBy c = (s.faultedBy c).withBelow below := (rfl)

/-- R63, R67: a completed instruction whose new stack ends in the Words below leaves them in place. -/
theorem State.completedAt_withBelow (s : State) (below : List Word) (pc : Nat) (st : List Word) :
    (s.withBelow below).completedAt pc (st ++ below) = (s.completedAt pc st).withBelow below := by
  unfold State.completedAt
  rw [State.withBelow_codeLen]
  split <;> rfl

/-- R69, R72: PUSHk reads no Word of the stack; without a capacity not even the depth. -/
theorem execPush_withBelow {k : Nat} {imm : Word} {s t : State} (below : List Word)
    (hcap : s.cfg.stackCapacity = none) (h : execPush k imm s = .next t) :
    execPush k imm (s.withBelow below) = .next (t.withBelow below) := by
  simp only [execPush_eq, State.withBelow_cfg, hcap, reduceCtorEq, if_false] at h ⊢
  cases h
  rw [← State.completedAt_withBelow]
  rfl

/-- R71: POP reads only whether there is a Word to discard. -/
theorem execPop_withBelow {s t : State} (below : List Word) (hlen : 1 ≤ s.stack.length)
    (h : execPop s = .next t) : execPop (s.withBelow below) = .next (t.withBelow below) := by
  have hlen' : 1 ≤ (s.withBelow below).stack.length := hlen.trans (by simp)
  rw [execPop_eq, if_neg (Nat.not_lt.2 hlen)] at h
  rw [execPop_eq, if_neg (Nat.not_lt.2 hlen'), State.withBelow_stack,
    List.tail_append_of_ne_nil (List.ne_nil_of_length_pos hlen)]
  cases h
  rw [← State.completedAt_withBelow]
  rfl

/-- R106: the operands of an ALU instruction are the top Words, the same with more Words below. -/
theorem execAlu_withBelow {op : AluOp} {s t : State} (below : List Word) (hlen : aluArity op ≤ s.stack.length)
    (h : execAlu op s = .next t) : execAlu op (s.withBelow below) = .next (t.withBelow below) := by
  have hlen' : aluArity op ≤ (s.withBelow below).stack.length := hlen.trans (by simp)
  rw [execAlu_eq, if_neg (Nat.not_lt.2 hlen)] at h
  rw [execAlu_eq, if_neg (Nat.not_lt.2 hlen'), State.withBelow_stack, List.take_append_of_le_length hlen,
    List.drop_append_of_le_length hlen]
  cases h
  rw [← State.completedAt_withBelow]
  rfl

/-- R66: an unassigned byte reads only its policy. -/
theorem execUnassigned_withBelow {s t : State} (below : List Word) (h : execUnassigned s = .next t) :
    execUnassigned (s.withBelow below) = .next (t.withBelow below) := by
  rw [execUnassigned_eq] at h ⊢
  rw [State.withBelow_cfg]
  split at h <;> rename_i hpolicy <;> cases h
  · rw [if_pos hpolicy, State.faultedBy_withBelow]
  · rw [if_neg hpolicy, ← State.completedAt_withBelow]
    rfl

/-- Settles O30: class by class (`exec_by_class`), no meaning looks below its operands. -/
theorem wordsBelowTheOperandsCannotMatter : Obligations.WordsBelowTheOperandsCannotMatter := by
  unfold Obligations.WordsBelowTheOperandsCannotMatter
  intro i s t below _ hcap hlen hexec
  change exec i (s.withBelow below) = .next (t.withBelow below)
  rw [exec_by_class] at hexec ⊢
  rw [arityOf] at hlen
  cases hc : classOf i <;> rw [hc] at hexec hlen
  case stop =>
    cases hexec
    rfl
  case push => exact execPush_withBelow below hcap hexec
  case pop => exact execPop_withBelow below hlen hexec
  case alu op => exact execAlu_withBelow below hlen hexec
  case unassigned => exact execUnassigned_withBelow below hexec

end Sys2Proof.Machine
end

section
/-! PROOFS. The immediate as a number (20_memory.md R39): the concatenation of bytes in address order is their positional
sum, and a complete immediate is that number in both truncation modes. -/

namespace Sys2Proof

/-- R39: the value of `bs` as base-256 digits, the byte at index 0 with the highest weight. -/
theorem concatBytes_eq_sum (bs : List Byte) :
    concatBytes bs = ∑ j ∈ Finset.range bs.length, (bs.getD j 0).toNat * 256 ^ (bs.length - 1 - j) := by
  induction bs using List.reverseRecOn with
  | nil => rfl
  | append_singleton bs b ih =>
    -- The byte appended has weight 1, and every byte before it gains a factor 256.
    have hlast : (bs ++ [b]).getD bs.length 0 = b := by simp
    have hweight : ∀ j ∈ Finset.range bs.length,
        ((bs ++ [b]).getD j 0).toNat * 256 ^ (bs.length - j) =
          (bs.getD j 0).toNat * 256 ^ (bs.length - 1 - j) * 256 := by
      intro j hj
      have hj := Finset.mem_range.1 hj
      rw [List.getD_append _ _ _ _ hj, mul_assoc, ← pow_succ,
        show bs.length - 1 - j + 1 = bs.length - j by omega]
    rw [concatBytes_append_single, List.length_append, List.length_singleton, Nat.add_sub_cancel,
      Finset.sum_range_succ, hlast, Nat.sub_self, pow_zero, mul_one, Finset.sum_congr rfl hweight,
      ← Finset.sum_mul, ih]

/-- R54: with no byte missing, the truncation mode does not matter. -/
theorem assembleImm_of_complete (mode : TruncPushMode) (bs : List Byte) :
    assembleImm mode bs.length bs = BitVec.ofNat 256 (concatBytes bs) := by
  cases mode <;> simp [assembleImm]

/-- R39, R54: a complete immediate loses no bit when it is zero-extended to a Word. -/
theorem assembleImm_toNat_of_complete (mode : TruncPushMode) {bs : List Byte} (h : bs.length ≤ 32) :
    (assembleImm mode bs.length bs).toNat = concatBytes bs := by
  rw [assembleImm_of_complete, BitVec.toNat_ofNat, Nat.mod_eq_of_lt (concatBytes_lt_word h)]

/-- Settles O6: the immediate is the concatenation of its bytes, and that is the positional sum. -/
theorem immediateIsBigEndian : Obligations.ImmediateIsBigEndian := by
  unfold Obligations.ImmediateIsBigEndian
  intro mode bs h
  rw [assembleImm_toNat_of_complete mode h, concatBytes_eq_sum]

end Sys2Proof
end

section
/-! PROOFS. The code during a run (20_memory.md R49): what every step keeps, every run keeps, so each address reads the
byte supplied at start. -/

namespace Sys2Proof.Machine

/-- What every step keeps holds in every state a run reaches. -/
theorem run_keeps {M : Host.Core} {P : M.State → Prop} (hstep : ∀ s t, M.step s = .next t → P s → P t) {k : Nat}
    {s t : M.State} (hrun : M.run k s = .next t) (hs : P s) : P t := by
  induction k generalizing s with
  | zero =>
    cases hrun
    exact hs
  | succ k ih =>
    obtain ⟨s', hs', hrun'⟩ := run_succ_next hrun
    exact ih hrun' (hstep s s' hs' hs)

/-- R49: every code address reads the same after a step. -/
theorem step_readCode {s t : State} (h : step s = .next t) (a : Nat) : t.readCode a = s.readCode a := by
  obtain ⟨-, hlen, hcode⟩ := step_cfg_code h
  exact State.readCode_congr hlen hcode a

/-- R49: every code address reads the same after any number of steps. -/
theorem run_readCode {k : Nat} {s t : State} (h : Host.Core.run Sys2Proof.core k s = .next t) (a : Nat) :
    t.readCode a = s.readCode a :=
  run_keeps (M := Sys2Proof.core) (P := fun r : State => r.readCode a = s.readCode a)
    (fun _ _ hstep hread => (step_readCode hstep a).trans hread) h rfl

/-- Settles O21: one step by its frame; a run by `run_readCode`, from the code that the start event loads. -/
theorem codeIsNeverWritten : Obligations.CodeIsNeverWritten := by
  unfold Obligations.CodeIsNeverWritten
  refine ⟨fun s t hstep => ?_, fun s t codeIn k hrun a => ?_⟩
  · obtain ⟨-, hlen, hcode⟩ := step_cfg_code hstep
    exact ⟨hcode, hlen, step_readCode hstep⟩
  · rw [run_readCode hrun, State.readCode_start]

end Sys2Proof.Machine
end

section
/-! PROOFS. The decoder and the encoder (30_encoding.md R51–R59): the immediate assembled from the bytes that follow the
opcode is a number of those bytes, so decoding and encoding undo each other, and every byte decodes. -/

namespace Sys2Proof

/-- R53: an instruction is well-formed when its immediate is a number of its `k` bytes. -/
theorem wellFormed_iff {i : Instr} :
    wellFormed i = true ↔ (immediateOf i).2.toNat < 256 ^ (immediateOf i).1 := by
  rw [wellFormed, immFits, decide_eq_true_eq, pow_mul]
  rfl

/-- R54: with all `k` bytes present, the truncation mode and the bytes after them do not matter. -/
theorem assembleImm_of_present (mode : TruncPushMode) {k : Nat} {bs : List Byte} (h : k ≤ bs.length) :
    assembleImm mode k bs = BitVec.ofNat 256 (concatBytes (bs.take k)) := by
  match mode with
  | .zeroFill => rw [assembleImm, Nat.sub_eq_zero_of_le h, List.replicate_zero, List.append_nil]
  | .omit => rfl

/-- R54: the immediate is a number of at most `k` bytes in both modes, complete or truncated. -/
theorem assembleImm_toNat_lt (mode : TruncPushMode) (k : Nat) (bs : List Byte) :
    (assembleImm mode k bs).toNat < 256 ^ k := by
  have hfits : ∀ cs : List Byte, cs.length ≤ k → (BitVec.ofNat 256 (concatBytes cs)).toNat < 256 ^ k := by
    intro cs hlen
    calc (BitVec.ofNat 256 (concatBytes cs)).toNat ≤ concatBytes cs := Nat.mod_le _ _
      _ < 256 ^ cs.length := concatBytes_lt cs
      _ ≤ 256 ^ k := Nat.pow_le_pow_right (by decide) hlen
  match mode with
  | .zeroFill => exact hfits _ (by rw [List.length_append, List.length_take, List.length_replicate]; omega)
  | .omit => exact hfits _ (List.length_take_le k bs)

/-- R56: the opcode byte of the instruction that `b` selects. -/
@[simp] theorem opcodeOf_instrAt_eq (b : Byte) (imm : Word) : opcodeOf (instrAt b imm) = b :=
  (opcodeOf_instrAt b imm).1

/-- R53: a byte with an immediate selects the PUSHk that carries it. -/
theorem immediateOf_instrAt_of_pos {b : Byte} (imm : Word) (h : 0 < immLength b) :
    immediateOf (instrAt b imm) = (immLength b, imm) := by
  rw [(opcodeOf_instrAt b imm).2, if_neg h.ne']

/-- R53: a byte without one selects an instruction that carries none. -/
theorem immediateOf_instrAt_of_zero {b : Byte} (imm : Word) (h : immLength b = 0) :
    immediateOf (instrAt b imm) = (0, 0) := by
  rw [(opcodeOf_instrAt b imm).2, if_pos h, h]

/-- R53, R57: every byte selects a well-formed instruction, given a number of its immediate bytes. -/
theorem wellFormed_instrAt {b : Byte} {imm : Word} (h : imm.toNat < 256 ^ immLength b) :
    wellFormed (instrAt b imm) = true := by
  rw [wellFormed_iff]
  obtain hzero | hpos := Nat.eq_zero_or_pos (immLength b)
  · rw [immediateOf_instrAt_of_zero imm hzero]
    decide
  · rwa [immediateOf_instrAt_of_pos imm hpos]

/-- R52, R53: the bytes of the instruction that `b` selects are `b` and those of the immediate. -/
theorem encode_instrAt (b : Byte) (imm : Word) :
    encode (instrAt b imm) = b :: bytesBE (immLength b) imm.toNat := by
  rw [encode, opcodeOf_instrAt_eq]
  obtain hzero | hpos := Nat.eq_zero_or_pos (immLength b)
  · rw [immediateOf_instrAt_of_zero imm hzero, hzero]
    rfl
  · rw [immediateOf_instrAt_of_pos imm hpos]

/-- R53, R54: with all `k ≤ 32` bytes present, the assembled immediate spells them again. -/
theorem bytesBE_assembleImm (mode : TruncPushMode) {k : Nat} {bs : List Byte} (hk : k ≤ 32) (h : k ≤ bs.length) :
    bytesBE k (assembleImm mode k bs).toNat = bs.take k := by
  have hlen : (bs.take k).length = k := List.length_take_of_le h
  have hword : concatBytes (bs.take k) < 2 ^ 256 := concatBytes_lt_word (hlen.trans_le hk)
  rw [assembleImm_of_present mode h, BitVec.toNat_ofNat, Nat.mod_eq_of_lt hword]
  calc bytesBE k (concatBytes (bs.take k))
      = bytesBE (bs.take k).length (concatBytes (bs.take k)) := by rw [hlen]
    _ = bs.take k := bytesBE_concatBytes _

/-- R53, R54: from the `k` bytes of a number, whatever follows, that number is assembled in both modes. -/
theorem assembleImm_bytesBE (mode : TruncPushMode) {k : Nat} {imm : Word} (rest : List Byte)
    (h : imm.toNat < 256 ^ k) : assembleImm mode k (bytesBE k imm.toNat ++ rest) = imm := by
  have hlen := bytesBE_length k imm.toNat
  have hpresent : k ≤ (bytesBE k imm.toNat ++ rest).length := by
    rw [List.length_append, hlen]
    omega
  rw [assembleImm_of_present mode hpresent, List.take_left' hlen, concatBytes_bytesBE _ _ h, BitVec.ofNat_toNat,
    BitVec.setWidth_eq]

/-- Settles O1: the opcode byte tells how many bytes to take, they assemble to the immediate, and the map gives the
instruction of that byte back. -/
theorem decodeOfEncodeGivesTheInstruction : Obligations.DecodeOfEncodeGivesTheInstruction := by
  unfold Obligations.DecodeOfEncodeGivesTheInstruction
  intro mode i rest hwf
  rw [encode, List.cons_append, Machine.decode_cons, immLength_opcodeOf,
    assembleImm_bytesBE mode rest (wellFormed_iff.1 hwf), instrAt_opcodeOf, List.drop_left' (bytesBE_length _ _)]

/-- Settles O2: the decoded instruction spells its opcode byte and the bytes taken; what is left over is the rest. -/
theorem encodeOfDecodeGivesTheBytes : Obligations.EncodeOfDecodeGivesTheBytes := by
  unfold Obligations.EncodeOfDecodeGivesTheBytes
  intro mode b bs i rest hpresent hdecode
  rw [Machine.decode_cons] at hdecode
  cases hdecode
  refine ⟨wellFormed_instrAt (assembleImm_toNat_lt mode _ bs), ?_⟩
  rw [encode_instrAt, bytesBE_assembleImm mode (immLength_le b) hpresent, List.cons_append,
    List.take_append_drop]

/-- Settles O3: the instruction is the one `b` selects in the map, with the immediate assembled for it. -/
theorem everyByteDecodesByItsOpcodeAlone : Obligations.EveryByteDecodesByItsOpcodeAlone := by
  unfold Obligations.EveryByteDecodesByItsOpcodeAlone
  intro mode
  exact ⟨rfl, fun b bs => ⟨_, Machine.decode_cons mode b bs, opcodeOf_instrAt_eq b _,
    wellFormed_instrAt (assembleImm_toNat_lt mode _ bs)⟩⟩

/-- Settles O4: the map has one entry for each of the 256 bytes; the number `k` of a PUSH is `immLength_of_push`. -/
theorem unassignedBytesAreThoseOfTheMap : Obligations.UnassignedBytesAreThoseOfTheMap := by
  unfold Obligations.UnassignedBytesAreThoseOfTheMap
  intro b
  refine ⟨?_, ?_, immLength_of_push⟩
  · exact byte_cases (P := fun b => opClass b = .unassigned ↔
      (0x0C ≤ b.toNat ∧ b.toNat ≤ 0x0F) ∨ b.toNat = 0x1A ∨ (0x1E ≤ b.toNat ∧ b.toNat ≤ 0x4F) ∨
        (0x51 ≤ b.toNat ∧ b.toNat ≤ 0x5E) ∨ 0x80 ≤ b.toNat) (by decide +kernel) b
  · exact byte_cases (P := fun b => opClass b = .push ↔ 0x5F ≤ b.toNat ∧ b.toNat ≤ 0x7F) (by decide +kernel) b

/-- Settles O5: each complete word is the encoding of its instruction, so the round trip decodes it in both modes;
the truncated PUSH3 is decoded by the definition of its mode. -/
theorem wordsOfTheMapDecode : Obligations.WordsOfTheMapDecode := by
  unfold Obligations.WordsOfTheMapDecode
  refine ⟨fun mode => ?_, rfl, rfl⟩
  have hdecode : ∀ i, wellFormed i = true → decode mode (encode i ++ []) = .ok (i, []) :=
    fun i => decodeOfEncodeGivesTheInstruction mode i []
  exact ⟨hdecode .stop rfl, hdecode .add rfl, hdecode .signextend rfl, hdecode .lt rfl, hdecode .iszero rfl,
    hdecode .and rfl, hdecode .sar rfl, hdecode .pop rfl, hdecode .push0 rfl, hdecode (.push2 0x0102) rfl,
    hdecode (.push32 allOnes) rfl, hdecode .unassigned1A rfl⟩

end Sys2Proof
end

section
/-! PROOFS. The fetched instruction (30_encoding.md R54, 40_dispatch_and_stack.md R72): the immediate the decoder
assembles from the bytes after pc is `Imm(p, k)` of the code, complete, zero-filled or cut at the end of code. -/

namespace Sys2Proof.Machine

/-- R13: as many bytes as asked for, or as there are up to the end of code. -/
theorem State.codeFrom_length (s : State) (n addr : Nat) :
    (s.codeFrom n addr).length = min n (s.codeLen - addr) := by
  rw [State.codeFrom_eq, List.length_map, List.length_range]

/-- Fewer bytes of the code are the first of more. -/
theorem State.take_codeFrom (s : State) {k n : Nat} (h : k ≤ n) (addr : Nat) :
    (s.codeFrom n addr).take k = s.codeFrom k addr := by
  rw [State.codeFrom_eq, State.codeFrom_eq, ← List.map_take, List.take_range, ← min_assoc, min_eq_left h]

/-- R13, R54: the bytes of the code, filled up with zeros, are the `ImmByte`s. -/
theorem State.codeFrom_append_zeros (s : State) (k addr : Nat) :
    s.codeFrom k addr ++ List.replicate (k - (s.codeLen - addr)) 0 =
      (List.range k).map fun j => s.immByte (addr + j) := by
  have hpast : (List.range (k - (s.codeLen - addr))).map
      (fun j => s.immByte (addr + (min k (s.codeLen - addr) + j))) =
        List.replicate (k - (s.codeLen - addr)) 0 := by
    refine List.eq_replicate_iff.2 ⟨by simp, ?_⟩
    simp only [List.mem_map, List.mem_range]
    rintro _ ⟨j, hj, rfl⟩
    exact State.immByte_of_ge (by omega)
  have hsplit : List.range k = List.range (min k (s.codeLen - addr) + (k - (s.codeLen - addr))) := by
    congr 1
    omega
  -- Up to the end of code the range gives the code's own bytes, and past it `hpast` gives the zeros.
  rw [hsplit, List.range_add, List.map_append, List.map_map, State.codeFrom_eq, ← hpast]
  rfl

/-- R54: `ImmByte(p+1) ++ … ++ ImmByte(p+m)` is the big-endian number of those bytes. -/
theorem immConcat_eq_concatBytes (s : State) (p m : Nat) :
    immConcat s p m = concatBytes ((List.range m).map fun j => s.immByte (p + 1 + j)) := by
  induction m with
  | zero => rfl
  | succ m ih => rw [List.range_succ, List.map_append, List.map_singleton, concatBytes_append_single, immConcat, ih]

/-- R54, R72: from the code after the opcode at `p` the decoder assembles `Imm(p, k)`, in both truncation modes. -/
theorem assembleImm_codeFrom (s : State) (p : Nat) {k n : Nat} (h : k ≤ n) :
    assembleImm s.cfg.truncPushMode k (s.codeFrom n (p + 1)) = immAt s p k := by
  unfold immAt
  generalize s.cfg.truncPushMode = mode
  match mode with
  | .zeroFill =>
    have hmissing : k - (s.codeFrom n (p + 1)).length = k - (s.codeLen - (p + 1)) := by
      rw [State.codeFrom_length]
      omega
    simp only [assembleImm]
    rw [hmissing, State.take_codeFrom s h, State.codeFrom_append_zeros, immConcat_eq_concatBytes]
  | .omit =>
    simp only [assembleImm]
    rw [State.take_codeFrom s h, State.codeFrom_eq, immConcat_eq_concatBytes]

/-- Settles O7: the fetch gives the instruction of the byte at pc, with the immediate of `assembleImm_codeFrom`. -/
theorem fetchAssemblesTheImmediateFromTheCode : Obligations.FetchAssemblesTheImmediateFromTheCode := by
  unfold Obligations.FetchAssemblesTheImmediateFromTheCode
  rintro s ⟨-, hpc⟩
  refine ⟨_, State.fetch_of_lt hpc, opcodeOf_instrAt_eq _ _, wellFormed_instrAt (assembleImm_toNat_lt ..), ?_⟩
  intro hpos
  rw [immediateOf_instrAt_of_pos _ hpos, assembleImm_codeFrom s s.pc (immLength_le _)]

end Sys2Proof.Machine
end

section
/-! PROOFS. Where the next instruction starts (30_encoding.md R59, 40_dispatch_and_stack.md R67). -/

namespace Sys2Proof

/-- R53: a byte that is no PUSH has no immediate. -/
theorem immLength_of_not_push {b : Byte} (h : opClass b ≠ .push) : immLength b = 0 := by
  revert h
  exact byte_cases (P := fun b => opClass b ≠ .push → immLength b = 0) (by decide +kernel) b

/-- R59: an instruction that is no PUSH is its opcode byte. -/
theorem instrLength_of_not_push {b : Byte} (h : opClass b ≠ .push) : instrLength b = 1 := by
  rw [instrLength, immLength_of_not_push h]

/-- R59: the length of an instruction is its opcode byte and its immediate bytes. -/
theorem instrLength_opcodeOf (i : Instr) : instrLength (opcodeOf i) = 1 + (immediateOf i).1 := by
  rw [instrLength, immLength_opcodeOf]

end Sys2Proof

namespace Sys2Proof.Machine

/-- R59, R65, R72: an instruction other than STOP faults or completes with pc moved by its length, saturated. -/
theorem exec_faults_or_completes {i : Instr} {s t : State} (hpc : s.pc < s.codeLen) (hstop : classOf i ≠ .stop)
    (h : exec i s = .next t) :
    (∃ c, t = s.faultedBy c) ∨
      ∃ st, t = s.completedAt (min (s.pc + instrLength (opcodeOf i)) s.codeLen) st := by
  have hone : classOf i ≠ .push → min (s.pc + instrLength (opcodeOf i)) s.codeLen = s.pc + 1 := by
    intro hc
    rw [instrLength_of_not_push hc]
    omega
  obtain ⟨hc, -⟩ | ⟨c, -, rfl⟩ | ⟨-, rfl⟩ | ⟨hc, -, rfl⟩ | ⟨hc, rfl⟩ | ⟨op, hc, -, rfl⟩ := exec_cases h
  case inl => exact absurd hc hstop
  case inr.inl => exact .inl ⟨c, rfl⟩
  case inr.inr.inl => exact .inr ⟨_, by rw [instrLength_opcodeOf, ← Nat.add_assoc]⟩
  all_goals exact .inr ⟨_, by rw [hone (by simp [hc])]⟩

/-- Settles O28: without a fault it completes, and a completed instruction halts exactly at the end of code. -/
theorem nextInstructionStartsAfterTheLength : Obligations.NextInstructionStartsAfterTheLength := by
  unfold Obligations.NextInstructionStartsAfterTheLength
  rintro i s t ⟨hr, hpc⟩ hstop hexec hok
  obtain ⟨c, rfl⟩ | ⟨st, rfl⟩ := exec_faults_or_completes hpc hstop hexec
  · exact absurd rfl (hok c)
  · rw [State.completedAt_pc, State.completedAt_status, State.completedAt_success]
    refine ⟨rfl, ?_⟩
    split
    · rw [if_pos (by omega), if_pos (by omega)]
      exact ⟨rfl, rfl⟩
    · rw [if_neg (by omega)]
      exact hr

end Sys2Proof.Machine
end

section
/-! PROOFS. What an instruction answers, class by class (40_dispatch_and_stack.md R66–R72, R106), and the statements
about one instruction that follow: STOP, POP, PUSHk, the ALU template, the unassigned bytes and their faults. -/

namespace Sys2Proof.Machine

/-- R70: an instruction of class STOP halts the run. -/
theorem exec_of_stop {i : Instr} (hc : classOf i = .stop) (s : State) :
    exec i s = .next { s with pc := s.pc + 1, status := .halted, success := true } := by
  rw [exec_by_class, hc]
  exact execStop_eq s

/-- R69, R72: an instruction of class PUSH overflows at the capacity; otherwise its immediate becomes the top. -/
theorem exec_of_push {i : Instr} (hc : classOf i = .push) (s : State) :
    exec i s = .next (if s.cfg.stackCapacity = some s.stack.length then s.faultedBy .stackOverflow
      else s.completedAt (min (s.pc + 1 + (immediateOf i).1) s.codeLen) ((immediateOf i).2 :: s.stack)) := by
  rw [exec_by_class, hc, apply_ite Host.Outcome.next]
  exact execPush_eq _ _ s

/-- R68, R71: an instruction of class POP underflows on the empty stack; otherwise it discards the top. -/
theorem exec_of_pop {i : Instr} (hc : classOf i = .pop) (s : State) :
    exec i s = .next (if s.stack.length < 1 then s.faultedBy .stackUnderflow
      else s.completedAt (s.pc + 1) s.stack.tail) := by
  rw [exec_by_class, hc, apply_ite Host.Outcome.next]
  exact execPop_eq s

/-- R68, R106: an instruction of class ALU(op) underflows below its arity; otherwise its result replaces its
operands. -/
theorem exec_of_alu {i : Instr} {op : AluOp} (hc : classOf i = .alu op) (s : State) :
    exec i s = .next (if s.stack.length < aluArity op then s.faultedBy .stackUnderflow
      else s.completedAt (s.pc + 1)
        (alu op (s.stack.getD 0 0) (s.stack.getD 1 0) (s.stack.getD 2 0) :: s.stack.drop (aluArity op))) := by
  rw [exec_by_class, hc, apply_ite Host.Outcome.next, ← alu_take]
  exact execAlu_eq op s

/-- R66: an instruction of an unassigned byte faults under FAULT and only advances under NOP. -/
theorem exec_of_unassigned {i : Instr} (hc : classOf i = .unassigned) (s : State) :
    exec i s = .next (if s.cfg.unknownOpcodePolicy = .fault then s.faultedBy .invalidOpcode
      else s.completedAt (s.pc + 1) s.stack) := by
  rw [exec_by_class, hc, apply_ite Host.Outcome.next]
  exact execUnassigned_eq s

/-- R63, R138: every instruction answers a next state; a fault of the machine is one as well. -/
theorem exec_has_next (i : Instr) (s : State) : ∃ t, exec i s = .next t := by
  cases hc : classOf i with
  | stop => exact ⟨_, exec_of_stop hc s⟩
  | push => exact ⟨_, exec_of_push hc s⟩
  | pop => exact ⟨_, exec_of_pop hc s⟩
  | alu op => exact ⟨_, exec_of_alu hc s⟩
  | unassigned => exact ⟨_, exec_of_unassigned hc s⟩

/-- R69, C13: only an instruction of class PUSH overflows. -/
theorem exec_status_ne_stackOverflow {i : Instr} {s t : State} (hr : s.status = .running) (hc : classOf i ≠ .push)
    (h : exec i s = .next t) : t.status ≠ .faulted .stackOverflow := by
  intro hfault
  obtain ⟨hhalt, -⟩ | ⟨c, hraises, rfl⟩ | ⟨hrun, -⟩ := exec_status_cases hr h
  · rw [hhalt] at hfault
    cases hfault
  · cases hfault
    exact hc hraises.1
  · rw [hrun] at hfault
    cases hfault

/-- R72: below the capacity PUSHk completes. -/
theorem exec_push_completes {i : Instr} {s : State} (hc : classOf i = .push)
    (hroom : s.cfg.stackCapacity ≠ some s.stack.length) :
    exec i s =
      .next (s.completedAt (min (s.pc + 1 + (immediateOf i).1) s.codeLen) ((immediateOf i).2 :: s.stack)) := by
  rw [exec_of_push hc, if_neg hroom]

/-- Settles O27: the underflow is the fault condition of `raises`; the arities are those of the class map. -/
theorem underflowPopsNothing : Obligations.UnderflowPopsNothing := by
  unfold Obligations.UnderflowPopsNothing
  exact ⟨fun i s _ hlen => exec_of_raises (c := .stackUnderflow) hlen, by decide, by decide, by decide⟩

/-- Settles O34: a full stack is the fault condition of a PUSH; any other instruction answers some next state
(`exec_has_next`), which is no overflow. -/
theorem pushAtCapacityOverflows : Obligations.PushAtCapacityOverflows := by
  unfold Obligations.PushAtCapacityOverflows
  rintro i s ⟨hr, -⟩ hfull
  refine ⟨fun hc => exec_of_raises (c := .stackOverflow) ⟨hc, hfull⟩, fun hc => ?_⟩
  obtain ⟨t, hexec⟩ := exec_has_next i s
  exact ⟨t, hexec, exec_status_ne_stackOverflow hr hc hexec⟩

/-- Settles O37: the new stack is the result on the old stack without the operands, so below the top each Word is the
one that lay `aluArity op - 1` deeper. -/
theorem aluTemplateReplacesItsOperands : Obligations.AluTemplateReplacesItsOperands := by
  unfold Obligations.AluTemplateReplacesItsOperands
  intro i op s _ hc
  refine ⟨fun hlen => by rw [exec_of_alu hc, if_pos hlen], fun hlen => ?_⟩
  rw [exec_of_alu hc, if_neg (Nat.not_lt.2 hlen)]
  refine ⟨_, rfl, rfl, ?_, ?_⟩
  · intro j hj
    obtain ⟨j, rfl⟩ := Nat.exists_eq_add_of_le' hj
    rw [List.getElem?_cons_succ, List.getElem?_drop]
    congr 1
    omega
  · rw [List.length_cons, List.length_drop]
    omega

/-- Settles O31: STOP has class STOP, and no step leaves a halted state (R139). -/
theorem stopHaltsTheRun : Obligations.StopHaltsTheRun := by
  unfold Obligations.StopHaltsTheRun
  intro s _
  refine ⟨exec_of_stop rfl s, fun t v hexec => ?_⟩
  rw [exec_of_stop rfl s] at hexec
  cases hexec
  rw [step_of_not_running (by simp)]
  exact nofun

/-- Settles O32: the stack is not empty, so POP does not underflow. -/
theorem popDiscardsTheTop : Obligations.PopDiscardsTheTop := by
  unfold Obligations.PopDiscardsTheTop
  intro s a below _ hstack
  rw [exec_of_pop rfl, hstack, List.tail_cons, if_neg (by simp)]

/-- Settles O33: each constructor is of class PUSH with its own `k`; PUSH0 has no immediate byte to saturate at. -/
theorem everyPushCompletes : Obligations.EveryPushCompletes := by
  unfold Obligations.EveryPushCompletes
  rintro s imm ⟨-, hpc⟩ hroom
  have hpush0 : exec .push0 s = .next (s.completedAt (s.pc + 1) (0 :: s.stack)) := by
    have hsaturated : min (s.pc + 1) s.codeLen = s.pc + 1 := Nat.min_eq_left hpc
    rw [← hsaturated]
    exact exec_push_completes rfl hroom
  refine ⟨hpush0, ?_⟩
  and_intros
  all_goals exact exec_push_completes (by simp only [classOf, opcodeOf]; rfl) hroom

/-- Settles O36: the class alone decides, under each policy. -/
theorem unassignedByteOnlyAdvancesOrFaults : Obligations.UnassignedByteOnlyAdvancesOrFaults := by
  unfold Obligations.UnassignedByteOnlyAdvancesOrFaults
  intro i s _ hc
  refine ⟨fun hnop => ?_, fun hfault => exec_of_raises (c := .invalidOpcode) ⟨hc, hfault⟩⟩
  rw [exec_of_unassigned hc, hnop, if_neg nofun]

end Sys2Proof.Machine
end

section
/-! PROOFS. The step from the code's bytes (40_dispatch_and_stack.md R63–R65, R72): a running machine runs the
instruction of the byte at pc with `Imm(p, k)` as its immediate, so its step is the pseudocode of R63. -/

namespace Sys2Proof.Machine

/-- R63, R65: the step runs the instruction that the fetch gives. -/
theorem step_of_fetch {s : State} {i : Instr} (hr : s.status = .running) (h : s.fetch = .ok i) :
    step s = exec i s := by
  unfold step runStep
  rw [hr, h]

/-- R54, R72: an immediate of no bytes is 0. -/
@[simp] theorem immAt_zero (s : State) (p : Nat) : immAt s p 0 = 0 := by
  unfold immAt
  rw [Nat.zero_min]
  split <;> rfl

/-- R54, R65, R72: where the dispatcher runs an instruction, it is the one of the byte at pc, with the `Imm(p, k)` of
that byte; with `k = 0` this is the 0 of an instruction without an immediate. -/
theorem step_runs_instr_at_pc {s : State} (h : s.Dispatching) :
    ∃ i, step s = exec i s ∧ classOf i = opClass (s.immByte s.pc) ∧
      immediateOf i = (immLength (s.immByte s.pc), immAt s s.pc (immLength (s.immByte s.pc))) := by
  obtain ⟨hr, hpc⟩ := h
  refine ⟨_, step_of_lt hr hpc, congrArg opClass (opcodeOf_instrAt_eq _ _), ?_⟩
  obtain hzero | hpos := Nat.eq_zero_or_pos (immLength (s.immByte s.pc))
  · rw [immediateOf_instrAt_of_zero _ hzero, hzero, immAt_zero]
  · rw [immediateOf_instrAt_of_pos _ hpos, assembleImm_codeFrom s s.pc (immLength_le _)]

/-- Settles O12: at the end of code both halt; otherwise the byte at pc selects the class, and each class answers what
its branch of the pseudocode leaves. -/
theorem stepIsThePseudocode : Obligations.StepIsThePseudocode := by
  unfold Obligations.StepIsThePseudocode
  intro s hr
  unfold stepPseudocode
  by_cases hend : s.codeLen ≤ s.pc
  · rw [if_pos hend]
    exact step_of_end_of_code hr hend
  · obtain ⟨i, hstep, hclass, himm⟩ := step_runs_instr_at_pc ⟨hr, Nat.lt_of_not_le hend⟩
    rw [if_neg hend, hstep, decodeOpcode]
    cases hc : opClass (s.immByte s.pc) <;> rw [hc] at hclass
    case stop => exact exec_of_stop hclass s
    case push =>
      rw [exec_of_push hclass, himm]
    case pop => exact exec_of_pop hclass s
    case alu op => exact exec_of_alu hclass s
    case unassigned => exact exec_of_unassigned hclass s

/-- Settles O11: the pseudocode names the next state. -/
theorem everyRunningStepHasANextState : Obligations.EveryRunningStepHasANextState := by
  unfold Obligations.EveryRunningStepHasANextState
  exact fun s hr => ⟨_, stepIsThePseudocode s hr⟩

/-- Settles O35: the instruction run is a PUSH with `k` told from its byte and `Imm(p, k)` as its immediate. -/
theorem stepPushesTheImmediateInTheCode : Obligations.StepPushesTheImmediateInTheCode := by
  unfold Obligations.StepPushesTheImmediateInTheCode
  intro s hdispatch hpush
  obtain ⟨i, hstep, hclass, himm⟩ := step_runs_instr_at_pc hdispatch
  rw [hstep, exec_of_push (hclass.trans hpush), himm, immLength_of_push hpush, apply_ite Host.Outcome.next]

/-- Settles O8: the decoder's answer at pc is the fetch's. -/
theorem stepRunsTheDecodedInstruction : Obligations.StepRunsTheDecodedInstruction := by
  unfold Obligations.StepRunsTheDecodedInstruction
  rintro s i rest ⟨hr, -⟩ _ hdecode
  exact step_of_fetch hr (by rw [State.fetch, hdecode])

/-- Settles O9: the fetch signals the end of code, at once with no code; a running machine in the invariant stands at
an opcode unless there is no code. -/
theorem stepAtEndOfCodeHalts : Obligations.StepAtEndOfCodeHalts := by
  unfold Obligations.StepAtEndOfCodeHalts
  refine ⟨fun s hr hend => step_of_end_of_code hr hend,
    fun s => ⟨_, step_of_end_of_code rfl le_rfl, rfl, rfl, rfl⟩, fun s hinv hr hend => ?_⟩
  have hagrees := hinv.agrees
  rw [statusAgrees, hr] at hagrees
  exact hagrees.resolve_left (Nat.not_lt.2 hend)

end Sys2Proof.Machine
end

section
/-! PROOFS. The arithmetic of the ALU (41_arithmetic.md R107–R118): the exact computations that `wrap` narrows are the
operations of `BitVec`, the number each one gives, and the bits SIGNEXTEND gives. -/

namespace Sys2Proof.Machine

/-- R10: `u(wrap(v)) = v mod 2^256`, for negative `v` as well. -/
theorem wrap_toNat_eq_emod (v : Int) : ((wrap v).toNat : Int) = v % 2 ^ 256 := by
  rw [wrap, BitVec.toNat_ofInt]
  exact Int.toNat_of_nonneg (Int.emod_nonneg v (by norm_num))

/-- R10: a Word is the wrap of its unsigned value. -/
@[simp] theorem wrap_u (a : Word) : wrap (u a) = a := by
  rw [wrap, BitVec.ofInt_natCast, BitVec.ofNat_toNat, BitVec.setWidth_eq]

/-- R108: the exact sum, narrowed, is the sum of Words. -/
theorem aluAdd_eq_add (a b : Word) : aluAdd a b = a + b := by
  rw [aluAdd, wrap, BitVec.ofInt_add]
  exact congrArg₂ (· + ·) (wrap_u a) (wrap_u b)

/-- R109: the exact product, narrowed, is the product of Words. -/
theorem aluMul_eq_mul (a b : Word) : aluMul a b = a * b := by
  rw [aluMul, wrap, BitVec.ofInt_mul]
  exact congrArg₂ (· * ·) (wrap_u a) (wrap_u b)

/-- R110: the exact difference, narrowed, is the difference of Words. -/
theorem aluSub_eq_sub (a b : Word) : aluSub a b = a - b := by
  rw [aluSub, wrap, sub_eq_add_neg, BitVec.ofInt_add, BitVec.ofInt_neg, BitVec.sub_eq_add_neg]
  exact congrArg₂ (· + -·) (wrap_u a) (wrap_u b)

/-! R107: a zero divisor or modulus. -/

@[simp] theorem aluDiv_zero (a : Word) : aluDiv a 0 = 0 := (rfl)
@[simp] theorem aluSdiv_zero (a : Word) : aluSdiv a 0 = 0 := (rfl)
@[simp] theorem aluMod_zero (a : Word) : aluMod a 0 = 0 := (rfl)
@[simp] theorem aluSmod_zero (a : Word) : aluSmod a 0 = 0 := (rfl)
@[simp] theorem aluAddmod_zero (a b : Word) : aluAddmod a b 0 = 0 := (rfl)
@[simp] theorem aluMulmod_zero (a b : Word) : aluMulmod a b 0 = 0 := (rfl)

section NonzeroDivisor

variable (a b : Word) {c : Word} (hc : c ≠ 0)
include hc

/-- R111: the quotient is no larger than the dividend, so nothing is lost. -/
theorem aluDiv_toNat : (aluDiv a c).toNat = a.toNat / c.toNat := by
  rw [aluDiv, if_neg (mt u_eq_zero.1 hc)]
  exact wrap_toNat_of_lt ((Nat.div_le_self _ _).trans_lt a.isLt)

/-- A remainder by a Word other than 0 is below it, so it fits a Word. -/
theorem wrap_mod_toNat (n : Nat) : (wrap (n % u c : Nat)).toNat = n % c.toNat :=
  wrap_toNat_of_lt ((Nat.mod_lt n (Nat.pos_of_ne_zero (mt u_eq_zero.1 hc))).trans c.isLt)

/-- R113. -/
theorem aluMod_toNat : (aluMod a c).toNat = a.toNat % c.toNat := by
  rw [aluMod, if_neg (mt u_eq_zero.1 hc)]
  exact wrap_mod_toNat hc _

/-- R115. -/
theorem aluAddmod_toNat : (aluAddmod a b c).toNat = (a.toNat + b.toNat) % c.toNat := by
  rw [aluAddmod, if_neg (mt u_eq_zero.1 hc)]
  exact wrap_mod_toNat hc _

/-- R116. -/
theorem aluMulmod_toNat : (aluMulmod a b c).toNat = a.toNat * b.toNat % c.toNat := by
  rw [aluMulmod, if_neg (mt u_eq_zero.1 hc)]
  exact wrap_mod_toNat hc _

end NonzeroDivisor

/-- R112, C5: the quotient of the magnitudes with the sign of the operands is the quotient truncated toward zero. -/
theorem tdiv_eq_signed_natAbs_div (x y : Int) :
    x.tdiv y = if decide (x < 0) = decide (y < 0) then ((x.natAbs / y.natAbs : Nat) : Int)
      else -((x.natAbs / y.natAbs : Nat) : Int) := by
  cases x with
  | ofNat m =>
    cases y with
    | ofNat n => rw [if_pos (by simp [(Int.natCast_nonneg _).not_gt])]; rfl
    | negSucc n => rw [if_neg (by simp)]; rfl
  | negSucc m =>
    cases y with
    | ofNat n => rw [if_neg (by simp)]; rfl
    | negSucc n => rw [if_pos (by simp)]; rfl

/-- R114, C6: the remainder of the magnitudes with the sign of the dividend is the remainder of that quotient. -/
theorem tmod_eq_signed_natAbs_mod (x y : Int) :
    x.tmod y = if x < 0 then -((x.natAbs % y.natAbs : Nat) : Int) else ((x.natAbs % y.natAbs : Nat) : Int) := by
  cases x with
  | ofNat m =>
    rw [if_neg (by simp)]
    cases y <;> rfl
  | negSucc m =>
    rw [if_pos (by simp)]
    cases y <;> rfl

/-- R112: the narrowed quotient is the signed quotient of Words; division by 0 gives 0 in both. -/
theorem aluSdiv_eq_sdiv (a b : Word) : aluSdiv a b = a.sdiv b := by
  by_cases hb : b = 0
  · subst hb
    exact BitVec.sdiv_zero.symm
  · have hwrap : aluSdiv a b = wrap (a.toInt.tdiv b.toInt) := by
      rw [aluSdiv, if_neg (mt u_eq_zero.1 hb), tdiv_eq_signed_natAbs_div, apply_ite wrap]
    rw [hwrap, wrap]
    apply BitVec.eq_of_toInt_eq
    rw [BitVec.toInt_ofInt, BitVec.toInt_sdiv]

/-- R114: for a divisor other than 0 the narrowed remainder is the signed remainder of Words. -/
theorem aluSmod_eq_srem (a : Word) {b : Word} (hb : b ≠ 0) : aluSmod a b = a.srem b := by
  have hwrap : aluSmod a b = wrap (a.toInt.tmod b.toInt) := by
    rw [aluSmod, if_neg (mt u_eq_zero.1 hb), tmod_eq_signed_natAbs_mod, apply_ite wrap]
  rw [hwrap, wrap, ← BitVec.toInt_srem, BitVec.ofInt_toInt]

/-- R117: square-and-multiply over Words is the power of Words, for an exponent of at most `n` bits: the exponent is
`2 * (e / 2)` and its lowest bit, and `(x * x) ^ (e / 2)` is the even part. -/
theorem powWord_eq_pow {n e : Nat} (x : Word) (he : e < 2 ^ n) : powWord n x e = x ^ e := by
  induction n generalizing x e with
  | zero =>
    obtain rfl : e = 0 := by omega
    rfl
  | succ n ih =>
    have hsq : powWord n (aluMul x x) (e / 2) = x ^ (2 * (e / 2)) := by
      rw [ih _ (by omega), aluMul_eq_mul, pow_mul, pow_two]
    rw [powWord, hsq]
    split
    · next h0 => rw [h0]; rfl
    · split
      · next hodd =>
        rw [aluMul_eq_mul, ← pow_succ']
        congr 1
        omega
      · next heven =>
        congr 1
        omega

/-- R117: a Word has at most 256 bits of exponent. -/
theorem aluExp_eq_pow (a b : Word) : aluExp a b = a ^ b.toNat :=
  powWord_eq_pow a b.isLt

/-- R10 `sext_256(x[t:0])`: every bit above `t` is bit `t`. -/
theorem sextFrom_getLsbD (x : Word) (t : Nat) {j : Nat} (hj : j < 256) :
    (sextFrom x t).getLsbD j = x.getLsbD (min j t) := by
  rw [sextFrom, BitVec.getLsbD_signExtend, BitVec.msb_eq_getLsbD_last, BitVec.getLsbD_extractLsb',
    BitVec.getLsbD_extractLsb']
  by_cases h : j < t + 1
  · simp [h, hj, show min j t = j by omega]
  · simp [h, hj, show min j t = t by omega]

/-- R118: from position 32 on the value is unchanged; below, each bit is that of the value up to the sign bit. -/
theorem aluSignextend_getLsbD (a b : Word) {j : Nat} (hj : j < 256) : (aluSignextend a b).getLsbD j =
    if 32 ≤ a.toNat then b.getLsbD j else b.getLsbD (min j (8 * a.toNat + 7)) := by
  unfold aluSignextend
  split
  · rfl
  · exact sextFrom_getLsbD b _ hj

end Sys2Proof.Machine
end

section
/-! PROOFS. The arithmetic instructions (41_arithmetic.md R107–R118): each is the template of R106 over its ALU
function, so a statement about one follows from the number or the bits that function gives. -/

namespace Sys2Proof.Machine

/-- Settles O38: the ALU's sum is the sum of Words. -/
theorem addWrapsModulo : Obligations.AddWrapsModulo := by
  unfold Obligations.AddWrapsModulo
  refine pushes2_of_alu (op := .add) rfl rfl fun a b => ?_
  rw [alu, aluAdd_eq_add, BitVec.toNat_add]

/-- Settles O39, by `aluMul_toNat`. -/
theorem mulWrapsModulo : Obligations.MulWrapsModulo := by
  unfold Obligations.MulWrapsModulo
  exact pushes2_of_alu (op := .mul) rfl rfl aluMul_toNat

/-- Settles O40: the difference is exact in the integers before it is narrowed. -/
theorem subIsPrimaryMinusSecondary : Obligations.SubIsPrimaryMinusSecondary := by
  unfold Obligations.SubIsPrimaryMinusSecondary
  exact pushes2_of_alu (op := .sub) rfl rfl fun a b => wrap_toNat_eq_emod (u a - u b)

/-- Settles O41: the two inequalities are those of the floor quotient. -/
theorem divIsTheFloorQuotient : Obligations.DivIsTheFloorQuotient := by
  unfold Obligations.DivIsTheFloorQuotient
  refine pushes2_of_alu (op := .div) rfl rfl fun a b => ⟨?_, fun hb => ?_⟩
  · rintro rfl
    exact aluDiv_zero a
  · rw [alu, aluDiv_toNat a hb]
    exact ⟨Nat.mul_div_le _ _, Nat.lt_mul_div_succ _ (Nat.pos_of_ne_zero (mt u_eq_zero.1 hb))⟩

/-- Settles O42: the ALU's quotient is the signed quotient of Words, which overflows only for MIN ÷ −1. -/
theorem sdivTruncatesTowardZero : Obligations.SdivTruncatesTowardZero := by
  unfold Obligations.SdivTruncatesTowardZero
  refine pushes2_of_alu (op := .sdiv) rfl rfl fun a b => ?_
  rw [alu, aluSdiv_eq_sdiv]
  refine ⟨?_, ?_, fun _ hover => ?_⟩
  · rintro rfl
    exact BitVec.sdiv_zero
  · rintro rfl rfl
    exact BitVec.intMin_sdiv_neg_one
  · exact BitVec.toInt_sdiv_of_ne_or_ne a b (not_and_or.1 hover)

/-- Settles O43: the quotient is that of the division with remainder. -/
theorem modIsTheUnsignedRemainder : Obligations.ModIsTheUnsignedRemainder := by
  unfold Obligations.ModIsTheUnsignedRemainder
  refine pushes2_of_alu (op := .mod) rfl rfl fun a b => ⟨?_, fun hb => ?_⟩
  · rintro rfl
    exact aluMod_zero a
  · rw [alu, aluMod_toNat a hb]
    exact ⟨Nat.mod_lt _ (Nat.pos_of_ne_zero (mt u_eq_zero.1 hb)), a.toNat / b.toNat, (Nat.div_add_mod _ _).symm⟩

/-- Settles O44: the ALU's remainder is the signed remainder of Words. -/
theorem smodTakesTheDividendsSign : Obligations.SmodTakesTheDividendsSign := by
  unfold Obligations.SmodTakesTheDividendsSign
  refine pushes2_of_alu (op := .smod) rfl rfl fun a b => ⟨?_, fun hb => ?_⟩
  · rintro rfl
    exact aluSmod_zero a
  · rw [alu, aluSmod_eq_srem a hb, BitVec.toInt_srem]

/-- Settles O45, by `aluAddmod_toNat`. -/
theorem addmodUsesTheExactSum : Obligations.AddmodUsesTheExactSum := by
  unfold Obligations.AddmodUsesTheExactSum
  refine pushes3_of_alu (op := .addmod) rfl rfl fun a b c => ⟨?_, fun hc => aluAddmod_toNat a b hc⟩
  rintro rfl
  exact aluAddmod_zero a b

/-- Settles O46: the remainder of a product is that of the product of the remainders (C7). -/
theorem mulmodUsesTheExactProduct : Obligations.MulmodUsesTheExactProduct := by
  unfold Obligations.MulmodUsesTheExactProduct
  refine pushes3_of_alu (op := .mulmod) rfl rfl fun a b c => ⟨?_, fun hc => ?_⟩
  · rintro rfl
    exact aluMulmod_zero a b
  · have hexact := aluMulmod_toNat a b hc
    exact ⟨hexact, hexact.trans (Nat.mul_mod ..)⟩

/-- Settles O47: square-and-multiply gives the power of Words, which is the exact power, reduced. -/
theorem expIsTheExactPowerModulo : Obligations.ExpIsTheExactPowerModulo := by
  unfold Obligations.ExpIsTheExactPowerModulo
  refine pushes2_of_alu (op := .exp) rfl rfl fun a b => ?_
  rw [alu, aluExp_eq_pow, BitVec.toNat_pow]

/-- Settles O48, by `aluSignextend_getLsbD`. -/
theorem signextendReplicatesTheSignBit : Obligations.SignextendReplicatesTheSignBit := by
  unfold Obligations.SignextendReplicatesTheSignBit
  exact pushes2_of_alu (op := .signextend) rfl rfl fun a b j hj => aluSignextend_getLsbD a b hj

/-- R106 for arity 2: an instruction whose relation has only the result `v` on the operands pushes `v`. -/
theorem Pushes2.exec_eq {i : Instr} {R : Word → Word → Word → Prop} (h : Pushes2 i R) {s : State} {a b v : Word}
    {below : List Word} (hd : s.Dispatching) (hs : s.stack = a :: b :: below) (hv : ∀ r, R a b r → r = v) :
    exec i s = .next (s.completedAt (s.pc + 1) (v :: below)) := by
  obtain ⟨r, hexec, hr⟩ := h s a b below hd hs
  rwa [← hv r hr]

/-- R106 for arity 3. -/
theorem Pushes3.exec_eq {i : Instr} {R : Word → Word → Word → Word → Prop} (h : Pushes3 i R) {s : State}
    {a b c v : Word} {below : List Word} (hd : s.Dispatching) (hs : s.stack = a :: b :: c :: below)
    (hv : ∀ r, R a b c r → r = v) : exec i s = .next (s.completedAt (s.pc + 1) (v :: below)) := by
  obtain ⟨r, hexec, hr⟩ := h s a b c below hd hs
  rwa [← hv r hr]

/-- Settles O56: the first clause of each instruction's own statement gives the result 0. -/
theorem divisionByZeroIsZero : Obligations.DivisionByZeroIsZero := by
  unfold Obligations.DivisionByZeroIsZero
  constructor
  · intro i hi s a below hd hs
    simp only [List.mem_cons, List.not_mem_nil, or_false] at hi
    rcases hi with rfl | rfl | rfl | rfl
    · exact divIsTheFloorQuotient.exec_eq hd hs fun r hr => hr.1 rfl
    · exact sdivTruncatesTowardZero.exec_eq hd hs fun r hr => hr.1 rfl
    · exact modIsTheUnsignedRemainder.exec_eq hd hs fun r hr => hr.1 rfl
    · exact smodTakesTheDividendsSign.exec_eq hd hs fun r hr => hr.1 rfl
  · intro i hi s a b below hd hs
    simp only [List.mem_cons, List.not_mem_nil, or_false] at hi
    rcases hi with rfl | rfl
    · exact addmodUsesTheExactSum.exec_eq hd hs fun r hr => hr.1 rfl
    · exact mulmodUsesTheExactProduct.exec_eq hd hs fun r hr => hr.1 rfl

/-- Settles O58: the ALU's sum and difference are those of Words, where subtraction undoes addition. -/
theorem addThenSubRestores : Obligations.AddThenSubRestores := by
  unfold Obligations.AddThenSubRestores
  intro a b c
  rw [alu, alu, aluAdd_eq_add, aluSub_eq_sub, BitVec.add_sub_cancel]

/-- Settles O59, bit by bit: from 32 on both extensions are the value, and below it the second reads bit
`min (min j t) t` of the value, with `t` the sign bit's position. -/
theorem signextendIsIdempotent : Obligations.SignextendIsIdempotent := by
  unfold Obligations.SignextendIsIdempotent
  intro p x c
  apply (bitsAre_getLsbD _ _).1
  intro j hj
  rw [alu, alu, aluSignextend_getLsbD p _ hj]
  split
  · rfl
  · next h =>
    rw [aluSignextend_getLsbD p x (by omega), aluSignextend_getLsbD p x hj, if_neg h, if_neg h, min_assoc, min_self]

end Sys2Proof.Machine
end

section
/-! PROOFS. The comparisons (42_comparison.md R119–R125): each pushes `bool(cond)` of a condition on its operands, and
the signed order is read off the sign bits and the unsigned order. -/

namespace Sys2Proof.Machine

/-- R11: `bool(c)` for a condition that `Q` says in other words, the Word 1 exactly when `Q` holds. -/
theorem boolWord_decide_eq_ite {P Q : Prop} [Decidable P] [Decidable Q] (h : P ↔ Q) :
    boolWord (decide P) = if Q then 1 else 0 :=
  if_congr (decide_eq_true_iff.trans h) rfl rfl

/-- R11, in two clauses, for a `Q` that need not be decidable. -/
theorem boolWord_decide_clauses {P Q : Prop} [Decidable P] (h : P ↔ Q) :
    (Q → boolWord (decide P) = 1) ∧ (¬ Q → boolWord (decide P) = 0) := by
  rw [boolWord_decide_eq_ite Iff.rfl]
  exact ⟨fun hQ => if_pos (h.2 hQ), fun hQ => if_neg (mt h.1 hQ)⟩

/-- R10: `s(x)` is `u(x)`, less `2^256` when the sign bit is set. -/
theorem sgn_eq_u_sub (a : Word) : sgn a = u a - if a.getLsbD 255 then 2 ^ 256 else 0 := by
  rw [sgn, BitVec.toInt_eq_msb_cond, BitVec.msb_eq_getLsbD_last]
  split
  · rfl
  · exact (Int.sub_zero _).symm

/-- R119: the method of the signed order: with unequal signs the negative Word is the smaller one, with equal signs
the unsigned order decides. -/
theorem sgn_lt_sgn_iff (a b : Word) : sgn a < sgn b ↔
    if a.getLsbD 255 = b.getLsbD 255 then u a < u b else a.getLsbD 255 = true := by
  have ha : u a < 2 ^ 256 := a.isLt
  have hb : u b < 2 ^ 256 := b.isLt
  rw [sgn_eq_u_sub a, sgn_eq_u_sub b]
  by_cases hsame : a.getLsbD 255 = b.getLsbD 255
  · rw [hsame, if_pos rfl, sub_lt_sub_iff_right, Nat.cast_lt]
  · rw [if_neg hsame, Bool.eq_not_of_ne hsame]
    cases b.getLsbD 255 with
    | false =>
      have hlt : (u a : Int) - 2 ^ 256 < u b - 0 := by omega
      exact iff_of_true hlt rfl
    | true =>
      have hnotlt : ¬ (u a : Int) - 0 < u b - 2 ^ 256 := by omega
      exact iff_of_false hnotlt Bool.false_ne_true

/-- R125: `u(x) = 0` says that no bit is set. -/
theorem u_eq_zero_iff_bitsAre (a : Word) : u a = 0 ↔ BitsAre a fun _ => false := by
  rw [u_eq_zero, ← bitsAre_getLsbD]
  simp only [BitsAre, BitVec.ofNat_eq_ofNat, BitVec.getLsbD_zero]

/-- Settles O49: the condition is the unsigned order itself. -/
theorem unsignedComparisonsAnswerOneOrZero : Obligations.UnsignedComparisonsAnswerOneOrZero := by
  unfold Obligations.UnsignedComparisonsAnswerOneOrZero
  exact ⟨pushes2_of_alu (op := .lt) rfl rfl fun a b => boolWord_decide_eq_ite Iff.rfl,
    pushes2_of_alu (op := .gt) rfl rfl fun a b => boolWord_decide_eq_ite Iff.rfl⟩

/-- Settles O50: the signed order by `sgn_lt_sgn_iff`, for SGT of the operands exchanged. -/
theorem signedComparisonsAnswerOneOrZero : Obligations.SignedComparisonsAnswerOneOrZero := by
  unfold Obligations.SignedComparisonsAnswerOneOrZero
  constructor
  · exact pushes2_of_alu (op := .slt) rfl rfl fun a b => boolWord_decide_eq_ite (sgn_lt_sgn_iff a b)
  · refine pushes2_of_alu (op := .sgt) rfl rfl fun a b => boolWord_decide_eq_ite ?_
    simpa only [eq_comm] using sgn_lt_sgn_iff b a

/-- Settles O51: equal Words are those with equal bits, and 0 is the Word with no bit set. -/
theorem equalityAndZeroTests : Obligations.EqualityAndZeroTests := by
  unfold Obligations.EqualityAndZeroTests
  exact ⟨pushes2_of_alu (op := .eq) rfl rfl fun a b => boolWord_decide_clauses (bitsAre_getLsbD a b).symm,
    pushes1_of_alu (op := .iszero) rfl rfl fun a => boolWord_decide_clauses (u_eq_zero_iff_bitsAre a)⟩

end Sys2Proof.Machine
end

section
/-! PROOFS. The bitwise and shift instructions (43_bitwise_shift.md R126–R133): the exact computations of the shifts are
the shifts of `BitVec` by the whole amount, from which the bits of each result follow. -/

namespace Sys2Proof.Machine

/-- R131: the narrowed product is the left shift by the whole amount, which is 0 above 255 as well. -/
theorem aluShl_eq_shiftLeft (a b : Word) : aluShl a b = b <<< a.toNat := by
  unfold aluShl
  split
  · next hlarge => exact (BitVec.shiftLeft_eq_zero hlarge).symm
  · apply BitVec.eq_of_toNat_eq
    rw [wrap_toNat, BitVec.toNat_shiftLeft, Nat.shiftLeft_eq]

/-- R132: the quotient is the logical right shift by the whole amount. -/
theorem aluShr_eq_ushiftRight (a b : Word) : aluShr a b = b >>> a.toNat := by
  unfold aluShr
  split
  · next hlarge => exact (BitVec.ushiftRight_eq_zero hlarge).symm
  · apply BitVec.eq_of_toNat_eq
    rw [wrap_toNat_of_lt ((Nat.div_le_self _ _).trans_lt b.isLt), BitVec.toNat_ushiftRight, Nat.shiftRight_eq_div_pow]

/-- R133: the arithmetic right shift of an integer is the floor of the quotient. -/
theorem sgn_shiftRight_eq_div (b : Word) (n : Nat) : sgn b >>> n = sgn b / 2 ^ n := by
  rw [Int.shiftRight_eq_div_pow, Nat.cast_pow, Nat.cast_ofNat]

/-- R133: the arithmetic right shift of Words reads bit `j + n`, and the sign bit from there on. -/
theorem sshiftRight_getLsbD (b : Word) (n : Nat) {j : Nat} (hj : j < 256) :
    (b.sshiftRight n).getLsbD j = b.getLsbD (min (j + n) 255) := by
  rw [BitVec.getLsbD_sshiftRight, BitVec.msb_eq_getLsbD_last, decide_eq_false (by omega), Bool.not_false, Bool.true_and,
    Nat.add_comm n j]
  split
  · next hinside => rw [Nat.min_eq_left (by omega)]
  · next houtside => rw [Nat.min_eq_right (by omega)]

/-- R133: every bit of the Word of sign bits is the sign bit. -/
theorem signFill_getLsbD (c : Bool) {j : Nat} (hj : j < 256) : (if c then allOnes else 0 : Word).getLsbD j = c := by
  cases c with
  | false => exact BitVec.getLsbD_zero
  | true => exact (BitVec.getLsbD_allOnes ..).trans (decide_eq_true hj)

/-- R133: the floor of the signed quotient is the arithmetic right shift, and above 255 both are all sign bits. -/
theorem aluSar_eq_sshiftRight (a b : Word) : aluSar a b = b.sshiftRight a.toNat := by
  unfold aluSar
  split
  · next hlarge =>
    apply BitVec.eq_of_getLsbD_eq
    intro j hj
    have hpast : 255 ≤ j + a.toNat := (Nat.le_of_lt hlarge).trans (Nat.le_add_left _ _)
    rw [signFill_getLsbD _ hj, sshiftRight_getLsbD b _ hj, Nat.min_eq_right hpast]
  · rw [BitVec.sshiftRight, sgn_shiftRight_eq_div, wrap]

/-- Settles O52: each is the operation of `BitVec`, whose bits the library gives. -/
theorem logicalOperationsActBitByBit : Obligations.LogicalOperationsActBitByBit := by
  unfold Obligations.LogicalOperationsActBitByBit
  refine ⟨?_, ?_, ?_, ?_⟩
  · exact pushes2_of_alu (op := .and) rfl rfl fun a b _ _ => BitVec.getLsbD_and
  · exact pushes2_of_alu (op := .or) rfl rfl fun a b _ _ => BitVec.getLsbD_or
  · exact pushes2_of_alu (op := .xor) rfl rfl fun a b _ _ => BitVec.getLsbD_xor
  · refine pushes1_of_alu (op := .not) rfl rfl fun a j hj => ?_
    rw [alu, aluNot, BitVec.getLsbD_not, decide_eq_true hj, Bool.true_and]

/-- Settles O53, by the bits of the left shift. -/
theorem shlMovesBitsUp : Obligations.ShlMovesBitsUp := by
  unfold Obligations.ShlMovesBitsUp
  refine pushes2_of_alu (op := .shl) rfl rfl fun a b j hj => ?_
  rw [alu, aluShl_eq_shiftLeft, BitVec.getLsbD_shiftLeft, decide_eq_true hj, Bool.true_and, ← decide_not]
  simp only [Nat.not_lt]

/-- Settles O54: only a position below 256 has a set bit, so the guard of the statement changes nothing. -/
theorem shrMovesBitsDown : Obligations.ShrMovesBitsDown := by
  unfold Obligations.ShrMovesBitsDown
  refine pushes2_of_alu (op := .shr) rfl rfl fun a b j _ => ?_
  rw [alu, aluShr_eq_ushiftRight, BitVec.getLsbD_ushiftRight, Nat.add_comm a.toNat j]
  exact (Bool.and_eq_right_iff_imp.2 fun hbit => decide_eq_true (BitVec.lt_of_getLsbD hbit)).symm

/-- Settles O55: the bits and the signed value of the arithmetic right shift; the floor in fact holds for every amount. -/
theorem sarFillsWithTheSignBit : Obligations.SarFillsWithTheSignBit := by
  unfold Obligations.SarFillsWithTheSignBit
  refine pushes2_of_alu (op := .sar) rfl rfl fun a b => ?_
  rw [alu, aluSar_eq_sshiftRight]
  refine ⟨fun j hj => sshiftRight_getLsbD b _ hj, fun _ => ?_⟩
  rw [BitVec.toInt_sshiftRight, sgn_shiftRight_eq_div]

/-- Settles O60: with the sign bit clear the sign fill is the zero fill. -/
theorem sarAgreesWithShrOnNonNegative : Obligations.SarAgreesWithShrOnNonNegative := by
  unfold Obligations.SarAgreesWithShrOnNonNegative
  intro a x c hsign
  have hmsb : x.msb = false := (BitVec.msb_eq_getLsbD_last x).trans hsign
  rw [alu, alu, aluSar_eq_sshiftRight, aluShr_eq_ushiftRight, BitVec.sshiftRight_eq_of_msb_false hmsb]

end Sys2Proof.Machine
end

section
/-! PROOFS. The exceptions (60_exceptions.md): when a fault is taken, what it writes (R134, R138, R140), what this
hardware never raises (R136, R137), that none is enabled after the end (R139), and what is no fault (R141). -/

namespace Sys2Proof.Machine

/-- R134, R138: a faulted next state is the fault entry of its cause, taken on the condition of that cause. -/
theorem raises_of_exec_faulted {i : Instr} {s t : State} {c : FaultCause} (hr : s.status = .running)
    (h : exec i s = .next t) (hfault : t.status = .faulted c) : raises i s c ∧ t = s.faultedBy c := by
  obtain ⟨hhalt, -⟩ | ⟨c', hraises, rfl⟩ | ⟨hrun, -⟩ := exec_status_cases hr h
  · exact absurd (hhalt.symm.trans hfault) nofun
  · obtain rfl : c' = c := Status.faulted.inj hfault
    exact ⟨hraises, rfl⟩
  · exact absurd (hrun.symm.trans hfault) nofun

/-- R140: at most one condition holds, because the one next state has one cause. -/
theorem raises_unique {i : Instr} {s : State} {c c' : FaultCause} (h : raises i s c) (h' : raises i s c') : c = c' := by
  have hnext : s.faultedBy c = s.faultedBy c' :=
    Host.Outcome.next.inj ((exec_of_raises h).symm.trans (exec_of_raises h'))
  exact Status.faulted.inj (congrArg State.status hnext)

/-- R134, R136, R137: a step raises only a cause that the parameters allow. -/
theorem causePossible_of_step_faulted {s t : State} {c : FaultCause} (h : step s = .next t)
    (hfault : t.status = .faulted c) : causePossible s.cfg c = true := by
  have hagrees := step_statusAgrees h
  rw [statusAgrees, hfault] at hagrees
  obtain ⟨-, -, hpossible⟩ := hagrees
  rwa [(step_cfg_code h).1] at hpossible

/-- R64, R67: a step that leaves pc at the end of code without a fault halts with success. -/
theorem halted_of_step_at_end {s t : State} (h : step s = .next t) (hok : ∀ c, t.status ≠ .faulted c)
    (hend : t.codeLen ≤ t.pc) : t.status = .halted ∧ t.success = true := by
  obtain hhalted | ⟨i, c, -, rfl⟩ | ⟨-, -, hpc⟩ := step_status_cases h
  · exact hhalted
  · exact absurd rfl (hok c)
  · exact absurd hend (Nat.not_le.2 hpc)

/-- Settles O24: the fault entry by `raises_of_exec_faulted`, and the outputs of a state that has ended. -/
theorem faultEntryWritesStatusAndSuccessOnly : Obligations.FaultEntryWritesStatusAndSuccessOnly := by
  unfold Obligations.FaultEntryWritesStatusAndSuccessOnly
  rintro i s t c ⟨hr, -⟩ hexec hfault
  obtain ⟨-, rfl⟩ := raises_of_exec_faulted hr hexec hfault
  obtain ⟨-, hresult, -⟩ := State.outputs_of_ended (t := s.faultedBy c) nofun
  exact ⟨rfl, hresult⟩

/-- Settles O25: the condition is necessary by `raises_of_exec_faulted` and sufficient by `exec_of_raises`. -/
theorem faultsHappenExactlyOnTheirConditions : Obligations.FaultsHappenExactlyOnTheirConditions := by
  unfold Obligations.FaultsHappenExactlyOnTheirConditions
  rintro i s ⟨hr, -⟩
  refine ⟨fun c => ⟨?_, fun hraises => ⟨_, exec_of_raises hraises, rfl⟩⟩, fun c c' => raises_unique⟩
  rintro ⟨t, hexec, hfault⟩
  exact (raises_of_exec_faulted hr hexec hfault).1

/-- Settles O26: under NOP, and with no capacity, the cause is not possible at all. -/
theorem thisHardwareRaisesOnlyUnderflow : Obligations.ThisHardwareRaisesOnlyUnderflow := by
  unfold Obligations.ThisHardwareRaisesOnlyUnderflow
  intro s t hstep _
  refine ⟨fun hnop hfault => ?_, fun hunbounded hfault => ?_⟩
  · have hpossible := causePossible_of_step_faulted hstep hfault
    simp [causePossible, hnop] at hpossible
  · have hpossible := causePossible_of_step_faulted hstep hfault
    simp [causePossible, hunbounded] at hpossible

/-- Settles O10: outside Running the step stops (`step_of_not_running`); a running one answers a next state. -/
theorem noStepInTerminalStates : Obligations.NoStepInTerminalStates := by
  unfold Obligations.NoStepInTerminalStates
  refine fun s => ⟨fun hstop hr => ?_, step_of_not_running⟩
  obtain ⟨t, hnext⟩ := everyRunningStepHasANextState s hr
  exact absurd (hstop.symm.trans hnext) nofun

/-- R141: an ALU instruction with its operands completes, whatever they are, with its result on top. -/
theorem exec_alu_completes {i : Instr} {op : AluOp} {s : State} (hr : s.status = .running)
    (hc : classOf i = .alu op) (hlen : aluArity op ≤ s.stack.length) :
    ∃ t, exec i s = .next t ∧ (∀ c, t.status ≠ .faulted c) ∧
      t.stack[0]? = some (alu op (s.stack.getD 0 0) (s.stack.getD 1 0) (s.stack.getD 2 0)) := by
  rw [exec_of_alu hc, if_neg (Nat.not_lt.2 hlen)]
  refine ⟨_, rfl, State.completedAt_status_ne_faulted hr _ _, ?_⟩
  rw [State.completedAt_stack]
  rfl

/-- R107: each of the four instructions by its own law for the divisor 0. -/
theorem alu_divisor_zero (a c : Word) : ∀ op ∈ [AluOp.div, .sdiv, .mod, .smod], alu op a 0 c = 0 := by
  simp only [List.forall_mem_cons]
  exact ⟨aluDiv_zero a, aluSdiv_zero a, aluMod_zero a, aluSmod_zero a, nofun⟩

/-- R107: the same for the modulus 0. -/
theorem alu_modulus_zero (a b : Word) : ∀ op ∈ [AluOp.addmod, .mulmod], alu op a b 0 = 0 := by
  simp only [List.forall_mem_cons]
  exact ⟨aluAddmod_zero a b, aluMulmod_zero a b, nofun⟩

/-- R131, R132, R133: an amount above 255 moves every bit out. -/
theorem alu_shift_past_width (a b c : Word) (hlarge : 255 < a.toNat) :
    alu .shl a b c = 0 ∧ alu .shr a b c = 0 ∧ alu .sar a b c = if b.getLsbD 255 then allOnes else 0 :=
  ⟨if_pos hlarge, if_pos hlarge, if_pos hlarge⟩

/-- R112: MIN ÷ −1 wraps to MIN, as the signed quotient of Words does. -/
theorem aluSdiv_minSigned_allOnes : aluSdiv minSigned allOnes = minSigned := by
  rw [aluSdiv_eq_sdiv, minSigned, allOnes, ← BitVec.neg_one_eq_allOnes]
  exact BitVec.intMin_sdiv_neg_one

/-- R72, R141: below the capacity the step of a PUSH, truncated or not, does not fault. -/
theorem step_push_completes {s : State} (hdispatch : s.Dispatching) (hpush : opClass (s.immByte s.pc) = .push)
    (hroom : s.cfg.stackCapacity ≠ some s.stack.length) :
    ∃ t, step s = .next t ∧ ∀ c, t.status ≠ .faulted c := by
  rw [stepPushesTheImmediateInTheCode s hdispatch hpush, if_neg hroom]
  exact ⟨_, rfl, State.completedAt_status_ne_faulted hdispatch.1 _ _⟩

/-- Settles O57: one lemma for each edge case; at the end of code the step halts. -/
theorem arithmeticEdgeCasesAreNotFaults : Obligations.ArithmeticEdgeCasesAreNotFaults := by
  unfold Obligations.ArithmeticEdgeCasesAreNotFaults
  exact ⟨fun i op s hdispatch => exec_alu_completes hdispatch.1, alu_divisor_zero, alu_modulus_zero,
    alu_shift_past_width, fun _ => aluSdiv_minSigned_allOnes, fun s => step_push_completes,
    fun s t => halted_of_step_at_end, fun s hr hend => ⟨_, step_of_end_of_code hr hend, rfl, rfl⟩⟩

end Sys2Proof.Machine
end

section
/-! PROOFS. The start event and the end of every run (70_reset_and_hazards.md R148, R151, R152): a run begins at the
reset values with the supplied code, moves pc forward at each step and so ends within the code that is left. -/

namespace Sys2Proof.Machine

/-- R148, R150: of the state before it the start event keeps the parameters only. -/
theorem State.start_congr {s s' : State} (hcfg : s'.cfg = s.cfg) (codeIn : List Byte) :
    s'.start codeIn = s.start codeIn := by
  rw [State.start, State.start, hcfg]

/-- 10_state.md R30: the start event lists no address outside the code it loads. -/
theorem State.start_code_inside (s : State) (codeIn : List Byte) :
    ∀ c ∈ (s.start codeIn).code, c.1 < (s.start codeIn).codeLen := by
  intro c hc
  rw [State.start_code] at hc
  obtain ⟨-, hlt⟩ | hempty := Memory.mem_pokeBytes hc
  · rwa [Nat.zero_add] at hlt
  · exact absurd hempty List.not_mem_nil

/-- 10_state.md R19: the empty stack fits every capacity. -/
theorem Config.admits_zero (c : Config) : c.admits 0 = true :=
  Config.admits_iff.2 fun cap _ => Nat.zero_le cap

/-- Settles O15: the loaded code by `State.readCode_start`, each reset value a field of the started machine. -/
theorem startSetsTheResetValues : Obligations.StartSetsTheResetValues := by
  unfold Obligations.StartSetsTheResetValues
  exact fun s codeIn => ⟨State.start_codeLen s codeIn, State.readCode_start s codeIn, State.start_pc s codeIn,
    State.start_stack s codeIn, State.start_status s codeIn, fun s' hcfg => State.start_congr hcfg codeIn⟩

/-- Settles O16: loading into an empty ROM gives a canonical one; pc 0 is at an opcode unless there is no code. -/
theorem startMeetsTheInvariant : Obligations.StartMeetsTheInvariant := by
  unfold Obligations.StartMeetsTheInvariant
  exact fun s codeIn => {
    memory := Memory.pokeBytes_wf 0 codeIn rfl
    inside := State.start_code_inside s codeIn
    pcBound := Nat.zero_le codeIn.length
    capacity := Config.admits_zero s.cfg
    agrees := (Nat.eq_zero_or_pos codeIn.length).symm }

/-- R151, R152: a step that leaves the machine running has moved pc forward, to an opcode inside the code. -/
theorem step_pc_progress {s t : State} (h : step s = .next t) (hrun : t.status = .running) :
    s.pc < t.pc ∧ t.pc < t.codeLen := by
  constructor
  · obtain ⟨-, ⟨-, rfl⟩ | ⟨hpc, i, hexec⟩⟩ := step_cases h
    · exact absurd hrun nofun
    · exact (exec_pc_bounds hpc hexec).1
  · obtain ⟨hhalt, -⟩ | ⟨i, c, -, rfl⟩ | ⟨-, -, hpc⟩ := step_status_cases h
    · exact absurd (hhalt.symm.trans hrun) nofun
    · exact absurd hrun nofun
    · exact hpc

/-- A run of `k + 1` steps goes on with `k` steps from the next state. -/
theorem run_succ_of_step {M : Host.Core} {s s' : M.State} (h : M.step s = .next s') (k : Nat) :
    M.run (k + 1) s = M.run k s' := by
  rw [Host.Core.run, h]

/-- R152: by induction on a bound of the code that is left, which every step that does not end the run lowers. -/
theorem run_ends_within {n : Nat} {s : State} (hr : s.status = .running) (hpos : 1 ≤ n)
    (hleft : s.codeLen - s.pc ≤ n) :
    ∃ k t, 1 ≤ k ∧ k ≤ n ∧ Host.Core.run Sys2Proof.core k s = .next t ∧ t.status ≠ .running := by
  induction n generalizing s with
  | zero => exact absurd hpos (Nat.not_succ_le_zero 0)
  | succ n ih =>
    obtain ⟨t, hstep⟩ := everyRunningStepHasANextState s hr
    have hrun (k : Nat) : Host.Core.run Sys2Proof.core (k + 1) s = Host.Core.run Sys2Proof.core k t :=
      run_succ_of_step (M := Sys2Proof.core) hstep k
    by_cases ht : t.status = .running
    · obtain ⟨hforward, hinside⟩ := step_pc_progress hstep ht
      obtain ⟨-, hlen, -⟩ := step_cfg_code hstep
      obtain ⟨k, u, -, hk, hend, hu⟩ := ih ht (by omega) (by omega)
      exact ⟨k + 1, u, Nat.succ_pos k, Nat.succ_le_succ hk, (hrun k).trans hend, hu⟩
    · exact ⟨1, t, le_rfl, hpos, hrun 0, ht⟩

/-- Settles O18: progress by `step_pc_progress`, and the end of the run by `run_ends_within`. -/
theorem everyRunEnds : Obligations.EveryRunEnds := by
  unfold Obligations.EveryRunEnds
  exact fun s _ hr => ⟨fun t => step_pc_progress, run_ends_within hr (le_max_left ..) (le_max_right ..)⟩

end Sys2Proof.Machine
end
